-- ==== Sys2Proof/Word.lean ====
section
/-!
DEFINITION. The words of CCB-CORE, every one unsigned, bit 0 the least significant (00_scope R6).
-/

namespace Sys2Proof

/-- One byte: a frame-buffer location, a duty, a level, a zero count (10_state R11, 20_memory R30). -/
abbrev Byte := BitVec 8

/-- The source's `uint16`: a frame's universe and its length (30_encoding R43). -/
abbrev Half := BitVec 16

/-- The width of every timestamp and duration (00_scope R5: 32, or a model argument).
DESIGN CHOICE (log 9): the model takes 32. -/
abbrev timeWidth : Nat := 32

/-- A timestamp or a duration, in the unit of `now` (30_encoding R41). -/
abbrev Time := BitVec timeWidth

/-- A noise position, and a draw of the entropy source (10_state R17, R27). -/
abbrev Position := BitVec 32

/-- The command word CW (30_encoding R42). -/
abbrev CommandWord := BitVec 40

end Sys2Proof
end

