-- ==== Sys2Proof/Config.lean ====
section
/-!
DEFINITION. The configuration registers CFG0 to CFG9 (10_state R18 to R26) and the values the spec
leaves free: the noise source and the bytes of a frame buffer nobody has written.
-/

namespace Sys2Proof

/-- The ten configuration registers, in the order of 10_state R18. Which of their values are legal
is `ConfigRegs.legal`. -/
structure ConfigRegs where
  /-- CFG0, the universe a frame must carry (R19). -/
  univ : Half
  /-- CFG1, the channel index, counted from 1 (R20). -/
  channel : BitVec 10
  /-- CFG2, the zero-frame threshold (R21). -/
  threshold : Byte
  /-- CFG3, the link timeout (R22). -/
  timeout : Time
  /-- CFG4, the sample period (R23). -/
  samplePeriod : Time
  /-- CFG5, the ceiling the level scales (R24). -/
  maxAmplitude : Byte
  /-- CFG6, the numerator of the smoothing factor (R25). -/
  alphaNum : Half
  /-- CFG7, the denominator of the smoothing factor (R25). -/
  alphaDen : Half
  /-- CFG8, the step of the noise position (R26). -/
  noiseStep : Position
  /-- CFG9, the fixed level of the direction output (R26). -/
  dirLevel : BitVec 1
  deriving DecidableEq, Repr

/-- The spec's test configuration CFG_EX (95_test_vectors). DESIGN CHOICE (log 3): the spec gives the
configuration no reset default; the state after reset holds this one. -/
def ConfigRegs.cfgEx : ConfigRegs where
  univ := 3
  channel := 2
  threshold := 5
  timeout := 1000
  samplePeriod := 20
  maxAmplitude := 230
  alphaNum := 28
  alphaDen := 100
  noiseStep := 16
  dirLevel := 1

/-- The noise source: a total function of the position, of which nothing else is known
(10_state R27, D13). A free value (log 7): it has no body, so a claim holds for every noise source. -/
opaque Config.noise : Position → Byte

/-- What a location of the frame buffer reads as before anybody has written it, by address: any value
(20_memory R32, U8). A free value (log 6): it has no body, so a claim holds for every contents. -/
opaque Config.unwrittenByte : Nat → Byte

end Sys2Proof
end

