-- ==== Sys2Proof/Syntax.lean ====
section
/-!
DEFINITION. The commands of CCB-CORE: the two rows of the opcode map (30_encoding R45).
-/

namespace Sys2Proof

/-- A command with the operands its word carries. `now` and `seed` are not in the word: they are the
levels of the ports NOW and SEED when the command is transferred (30_encoding R41, R49), so they are
read from the state. -/
inductive Instr where
  /-- FRAME: the universe and the length of one control frame (30_encoding R43, 40_debounce R50). -/
  | frame (univ length : Half)
  /-- TICK: no operand in the word (30_encoding R44, 43_tick_fsm R80). -/
  | tick
  deriving DecidableEq, Repr

end Sys2Proof
end

