-- ==== Sys2Proof/WellFormed.lean ====
section
/-!
DEFINITION. Which command words and which commands are well formed: the opcode map's rows as masks and
matches (30_encoding R45), stated apart from the decoder so that the two can be compared.
-/

namespace Sys2Proof

/-- One row of the opcode map: a word `w` belongs to it iff `w &&& mask = pattern` (R45). -/
structure OpcodeRow where
  mnemonic : String
  pattern : CommandWord
  mask : CommandWord
  deriving DecidableEq, Repr

/-- A word belongs to a row of the opcode map. -/
def OpcodeRow.hits (r : OpcodeRow) (w : CommandWord) : Bool := w &&& r.mask == r.pattern

/-- FRAME's row of the opcode map (R45). -/
def OpcodeRow.frame : OpcodeRow := ⟨"FRAME", 0x0100000000, 0xFF00000000⟩

/-- TICK's row of the opcode map (R45). -/
def OpcodeRow.tick : OpcodeRow := ⟨"TICK", 0x0200000000, 0xFFFFFFFFFF⟩

/-- The whole opcode map (R45). -/
def opcodeRows : List OpcodeRow := [.frame, .tick]

/-- A command word is well formed iff some row of the opcode map holds it; every other word is
reserved (R46). -/
def CommandWord.wellFormed (w : CommandWord) : Bool := opcodeRows.any (·.hits w)

/-- Every FRAME and the TICK are well formed: each value of `universe` and of `length` is legal
(30_encoding R43: the length is not range checked; 93_implementation_defined, section 1). -/
def Instr.wellFormed : Instr → Bool
  | .frame _ _ => true
  | .tick => true

end Sys2Proof
end

