-- ==== Sys2Proof/Decode.lean ====
section
/-!
DEFINITION. Decoding a command word, total and rejecting by name (30_encoding R42 to R46), and the
encoder written from the same formats.
-/

namespace Sys2Proof

/-- Why a command word is reserved (30_encoding R46). -/
inductive DecodeError where
  /-- The field `op` is neither 0x01 nor 0x02 (U1). -/
  | reservedOp (op : Byte)
  /-- `op` is 0x02 and the rest of the word is not zero (U2). -/
  | tickOperandNotZero (rest : BitVec 32)
  deriving DecidableEq, Repr

/-- The field `op`, CW[39:32] (R42). -/
def CommandWord.op (w : CommandWord) : Byte := w.extractLsb' 32 8

/-- The field `universe` of format CF, CW[31:16] (R42, R43). -/
def CommandWord.univ (w : CommandWord) : Half := w.extractLsb' 16 16

/-- The field `length` of format CF, CW[15:0] (R42, R43). -/
def CommandWord.length (w : CommandWord) : Half := w.extractLsb' 0 16

/-- The field of format CT that must be zero, CW[31:0] (R42, R44). -/
def CommandWord.rest (w : CommandWord) : BitVec 32 := w.extractLsb' 0 32

/-- The command a word stands for; the field `op` alone selects the format (R42, R45, R46). -/
def decode (w : CommandWord) : Except DecodeError Instr :=
  if CommandWord.op w = 0x01 then
    .ok (.frame (CommandWord.univ w) (CommandWord.length w))
  else if CommandWord.op w = 0x02 then
    if CommandWord.rest w = 0 then .ok .tick else .error (.tickOperandNotZero (CommandWord.rest w))
  else
    .error (.reservedOp (CommandWord.op w))

/-- The word of a command (R42, R45): format CF for FRAME, format CT for TICK. -/
def encode : Instr → CommandWord
  | .frame univ length => 0x01#8 ++ univ ++ length
  | .tick => 0x02#8 ++ 0#32

/-- The command the decoder reads from the bits `w` of an opcode-table row, numbered as the table
numbers them: one 40-bit word, bit 0 the least significant (R42). -/
def decodeTableWord (_nbits w : Nat) : Option Instr :=
  if w < 2 ^ 40 then
    match decode (BitVec.ofNat 40 w) with
    | .ok i => some i
    | .error _ => none
  else
    none

end Sys2Proof
end

