-- ==== Sys2Proof/Machine/State.lean ====
section
/-!
DEFINITION. The state of CCB-CORE as plain data, the ways a step can stop, and the state after reset.
-/

namespace Sys2Proof.Machine

/-- One call of the Output Sink (10_state R28). -/
inductive SinkEvent where
  /-- `SinkDuty(d)`: one strobe of DUTY_WR with DUTY_OUT = d (30_encoding R40). -/
  | duty (d : Byte)
  /-- `SinkDir(l)`: one strobe of DIR_WR with DIR_OUT = l (30_encoding R40). -/
  | dir (l : BitVec 1)
  deriving DecidableEq, Repr

/-- One thing the host does to the block's input ports (30_encoding R40, 70_reset R114). -/
inductive HostMove where
  /-- One write through FB_WE, FB_WADDR, FB_WDATA (20_memory R32). -/
  | writeFb (addr : BitVec 9) (data : Byte)
  /-- Raise CMD_VALID with a command word on CW and a timestamp on NOW; `none` leaves SEED as it is
  (30_encoding R40, R41, R47). -/
  | offer (cw : CommandWord) (now : Time) (seed : Option Position)
  /-- Put values on the configuration inputs (70_reset R100, R111). -/
  | driveConfig (inputs : ConfigRegs)
  /-- Raise RESET (70_reset R100, R102). -/
  | assertReset
  /-- Lower RESET (70_reset R100). -/
  | releaseReset
  deriving DecidableEq, Repr

/-- The block raises no exception and no command can fault (60_exceptions R90), so there is no reason
for a fault: the type is empty, and a step that faults cannot be written down. -/
inductive Fault where
  deriving DecidableEq, Repr

/-- Why the model gives a step no meaning. -/
inductive Refusal where
  /-- An instruction without a meaning. Raised by nobody: every row of the opcode table has its
  meaning. Safe. -/
  | notModelled (mnemonic : String)
  /-- A reserved command word was transferred (30_encoding R46). Raised by `step` when the decoder
  refuses the word. Safe: claims then say nothing of the run. -/
  | reservedWord (why : DecodeError)
  /-- A configuration outside the legal ranges (10_state R18, U3 to U5). Raised by the release of
  RESET, and by FRAME and TICK where the latched configuration is illegal. Safe. -/
  | illegalConfig
  /-- The host offers a command while CMD_READY is false, or while another offer waits, for which
  there is no move (70_reset R104, R105, U20). Raised by the host's offer. Safe. -/
  | offerNotReady
  deriving DecidableEq, Repr

/-- Everything the spec gives the machine, with the levels of its input ports and the host's moves to
come. -/
structure State where
  /-- `S.running`: the block's only control state and only flag (10_state R12). -/
  running : Bool
  /-- `S.currentDuty`: the last duty written to the output (R13). -/
  currentDuty : Byte
  /-- `S.level`: the most recent nonzero channel value, 0 when stopped (R14). -/
  level : Byte
  /-- `S.zeroStreak`: the count of consecutive zero frames (R15). -/
  zeroStreak : Byte
  /-- `S.lastFrameTime`: the time of the last processed frame (R16). -/
  lastFrameTime : Time
  /-- `S.lastSampleTime`: the time of the last start or sample (R16). -/
  lastSampleTime : Time
  /-- `S.position`: the noise position (R17). -/
  position : Position
  /-- CFG0 to CFG9, latched when RESET is released (R18). -/
  cfg : ConfigRegs
  /-- The output register DUTY_OUT (R28). -/
  dutyOut : Byte
  /-- The output register DIR_OUT (R28). -/
  dirOut : BitVec 1
  /-- OUT, the sink calls so far, oldest first (R28). -/
  out : List SinkEvent
  /-- FB, the written bytes of the frame buffer, by rising address (20_memory R30). -/
  fb : List Host.Cell
  /-- The level of RESET (30_encoding R40). -/
  resetIn : Bool
  /-- The levels of the configuration inputs (30_encoding R40). -/
  cfgIn : ConfigRegs
  /-- The level of CMD_VALID (30_encoding R40). -/
  cmdValid : Bool
  /-- The level of CW (30_encoding R40). -/
  cw : CommandWord
  /-- The level of NOW (30_encoding R41). -/
  now : Time
  /-- The level of SEED (30_encoding R41). -/
  seed : Position
  /-- The moves the host is going to make, oldest first. The model's own field (log 1). -/
  host : List HostMove
  deriving DecidableEq, Repr

/-- The machine right after reset, RESET released (10_state R11, 70_reset R100, R101). DESIGN CHOICE:
the values the spec does not give are those of the logs 3, 4, 5 and 10. -/
def State.reset : State where
  running := false
  currentDuty := 0
  level := 0
  zeroStreak := 0
  lastFrameTime := 0
  lastSampleTime := 0
  position := 0
  cfg := .cfgEx
  dutyOut := 0
  dirOut := 0
  out := []
  fb := []
  resetIn := false
  cfgIn := .cfgEx
  cmdValid := false
  cw := 0
  now := 0
  seed := 0
  host := []

end Sys2Proof.Machine
end

