-- ==== Sys2Proof/Machine/Ops.lean ====
section
/-!
DEFINITION. The named operations: the arithmetic primitives of 00_scope R7, the frame buffer, the sink
calls, the two transitions every command shares (START, STOP), and the reset of the registers.
-/

namespace Sys2Proof.Machine

/-! ## Arithmetic primitives (00_scope R7) -/

/-- `tdiff(a, b)`: the elapsed time from `b` to `a`, modulo 2^TW (00_scope R7). -/
def tdiff (a b : Time) : Time := a - b

/-- `rhu(a, b)`: `a / b` rounded to the nearest integer, ties upward (00_scope R7, 42_sampler R70). -/
def rhu (a b : Nat) : Nat := (2 * a + b) / (2 * b)

/-- `clamp(x, lo, hi)` (00_scope R7). -/
def clamp (x lo hi : Nat) : Nat := if x < lo then lo else if hi < x then hi else x

/-! ## The frame buffer (20_memory) -/

/-- The number of locations of the frame buffer (20_memory R30). -/
abbrev Memory.size : Nat := 512

/-- The form of the frame buffer as data: the locations somebody has written, by rising address, all
of them in the address space. A location that is not listed holds no value (20_memory R32), so no
entry can repeat it, and equal contents are equal lists. -/
abbrev Memory.wf (m : List Host.Cell) : Prop :=
  m.Pairwise (fun a b => a.1 < b.1) ∧ ∀ c ∈ m, c.1 < Memory.size

/-- The byte somebody has written at an address, if anybody has. -/
def Memory.written : List Host.Cell → Nat → Option Byte
  | [], _ => none
  | c :: m, a => if c.1 = a then some c.2 else Memory.written m a

/-- `MemRead(addr, 1)` (20_memory R31): the byte at an address. A location nobody has written holds
any value (U8), which is the free value `Config.unwrittenByte` (log 6). -/
def Memory.read (m : List Host.Cell) (a : Nat) : Byte :=
  (Memory.written m a).getD (Config.unwrittenByte a)

/-- `MemWrite(addr, 1, v)` (20_memory R32). -/
def Memory.write : List Host.Cell → Nat → Byte → List Host.Cell
  | [], a, b => [(a, b)]
  | c :: m, a, b =>
    if a < c.1 then (a, b) :: c :: m
    else if a = c.1 then (a, b) :: m
    else c :: Memory.write m a b

/-! ## The Output Sink (10_state R28) -/

/-- `SinkDuty(d)`: the output register takes `d`, and the trace gains `Duty(d)` (00_scope R7). -/
def sinkDuty (d : Byte) (s : State) : State :=
  { s with dutyOut := d, out := s.out ++ [.duty d] }

/-- `SinkDir(l)`: the output register takes `l`, and the trace gains `Dir(l)` (00_scope R7). -/
def sinkDir (l : BitVec 1) (s : State) : State :=
  { s with dirOut := l, out := s.out ++ [.dir l] }

/-! ## The two transitions -/

/-- START, the transition STOPPED to RUNNING (40_debounce R54). -/
def start (now : Time) (seed : Position) (s : State) : State :=
  { s with running := true, position := seed, lastSampleTime := now }

/-- STOP, the transition RUNNING to STOPPED, shared by the debounce and the watchdog (40_debounce
R55, 60_exceptions R94). -/
def stop (s : State) : State :=
  { sinkDuty 0 s with currentDuty := 0, level := 0, running := false }

/-- What RESET does to the block's registers, its output registers and the trace (70_reset R100,
R102); no sink call, and the frame buffer stays. DESIGN CHOICE (logs 4 and 5): the three registers
and DIR_OUT, to which the spec gives no reset value, take the values they have in `State.reset`. -/
def resetRegisters (s : State) : State :=
  { s with
    running := State.reset.running
    currentDuty := State.reset.currentDuty
    level := State.reset.level
    zeroStreak := State.reset.zeroStreak
    lastFrameTime := State.reset.lastFrameTime
    lastSampleTime := State.reset.lastSampleTime
    position := State.reset.position
    dutyOut := State.reset.dutyOut
    dirOut := State.reset.dirOut
    out := State.reset.out }

end Sys2Proof.Machine
end

