-- ==== Sys2Proof/Machine/Operands.lean ====
section
/-!
DEFINITION. The operands of the commands: the legal configurations (10_state R18), the filter of a
frame (40_debounce R51), the channel byte (20_memory R31, R33), and the command port's handshake
(30_encoding R40).
-/

namespace Sys2Proof

/-- The legal configurations (10_state R18, R20, R21, R25; U3 to U5): channel 1..512, threshold
1..255, 0 < alphaNum < alphaDen. The other registers have no reserved value. -/
def ConfigRegs.legal (c : ConfigRegs) : Bool :=
  decide (1 ≤ c.channel.toNat) && decide (c.channel.toNat ≤ 512)
    && decide (1 ≤ c.threshold.toNat)
    && decide (1 ≤ c.alphaNum.toNat) && decide (c.alphaNum.toNat < c.alphaDen.toNat)
    && decide (2 ≤ c.alphaDen.toNat)

/-- Channel index `k` is at address `k - 1` of the frame buffer (20_memory R33). -/
def ConfigRegs.channelAddress (c : ConfigRegs) : Nat := c.channel.toNat - 1

end Sys2Proof

namespace Sys2Proof.Machine

/-- `Accept(universe, length)`: all 16 bits of the universe are equal and the length covers the
channel (40_debounce R51). -/
def accepts (c : ConfigRegs) (univ length : Half) : Bool :=
  univ == c.univ && decide (c.channel.toNat ≤ length.toNat)

/-- The channel byte of the frame in the frame buffer, `MemRead(CFG.channel - 1, 1)` (40_debounce R50). -/
def channelByte (s : State) : Byte := Memory.read s.fb s.cfg.channelAddress

/-- A command has a meaning only under a legal configuration; any other configuration is refused
(10_state R18, 60_exceptions R90). -/
def underLegalConfig (s after : State) : Host.Outcome State Fault Refusal :=
  if s.cfg.legal then .next after else .refused .illegalConfig

/-- CMD_READY: commands are atomic, so the block is ready whenever RESET is not asserted (30_encoding
R40, 70_reset R100, R106). -/
def State.cmdReady (s : State) : Bool := !s.resetIn

/-- The port is free for an offer: the host offers a command only when CMD_READY is true, and no
second one while an offer waits (70_reset R105). -/
def State.takesOffer (s : State) : Bool := s.cmdReady && !s.cmdValid

/-- A command is transferred when CMD_VALID and CMD_READY are both true (30_encoding R40). -/
def State.transfers (s : State) : Bool := s.cmdValid && s.cmdReady

/-- The position on the port NOISE_POS: the noise position (30_encoding R40, 42_sampler R68; log 15). -/
def State.noisePos (s : State) : Position := s.position

end Sys2Proof.Machine
end

