-- ==== Sys2Proof/Machine/Flags.lean ====
section
/-!
DEFINITION. The conditions the rules test: the zero count against its threshold (40_debounce R52) and
the two interval comparisons made while the block's one flag, `S.running`, is true (60_exceptions R97).
-/

namespace Sys2Proof.Machine

/-- The incremented zero count reaches the threshold (40_debounce R52). The sum is exact: the register
never has to hold a count that does not fit it (10_state R15). -/
def thresholdReached (s : State) : Bool := decide (s.cfg.threshold.toNat ≤ s.zeroStreak.toNat + 1)

/-- The link-loss condition: running, and the timeout has elapsed since the last processed frame
(41_watchdog R60). -/
def watchdogDue (now : Time) (s : State) : Bool :=
  s.running && decide (s.cfg.timeout ≤ tdiff now s.lastFrameTime)

/-- The sampling condition: running, and the period has elapsed since the last start or sample
(42_sampler R66). -/
def sampleDue (now : Time) (s : State) : Bool :=
  s.running && decide (s.cfg.samplePeriod ≤ tdiff now s.lastSampleTime)

end Sys2Proof.Machine
end

