-- ==== Sys2Proof/Machine/Debounce.lean ====
section
/-!
DEFINITION. The Debounce/State Controller: the FRAME command and its channel step (40_debounce R50 to
R53).
-/

namespace Sys2Proof.Machine

/-- NONZERO, the nonzero path of the channel step (40_debounce R53). -/
def nonzeroFrame (v : Byte) (now : Time) (seed : Position) (s : State) : State :=
  if s.running then { s with zeroStreak := 0, level := v }
  else start now seed { s with zeroStreak := 0, level := v }

/-- The zero path of the channel step (40_debounce R52): count, and at the threshold stop if running
and clear the count in either case. -/
def zeroFrame (s : State) : State :=
  if thresholdReached s then
    { (if s.running then stop s else s) with zeroStreak := 0 }
  else
    { s with zeroStreak := s.zeroStreak + 1 }

/-- CHANNEL, what a processed frame with the channel byte `v` does (40_debounce R52, R53). -/
def channelStep (v : Byte) (now : Time) (seed : Position) (s : State) : State :=
  if v = 0 then zeroFrame { s with lastFrameTime := now }
  else nonzeroFrame v now seed { s with lastFrameTime := now }

/-- FRAME (40_debounce R50): a frame that fails the filter changes nothing; any other is processed
with the byte at its channel and the sampled levels of NOW and SEED. -/
def execFrame (univ length : Half) (s : State) : Host.Outcome State Fault Refusal :=
  underLegalConfig s
    (if accepts s.cfg univ length then channelStep (channelByte s) s.now s.seed s else s)

end Sys2Proof.Machine
end

