-- ==== Sys2Proof/Machine/Sampler.lean ====
section
/-!
DEFINITION. The Amplitude/Noise Sampler, the second phase of TICK (42_sampler R65 to R75).
-/

namespace Sys2Proof.Machine

/-- Step 3, the effective amplitude (42_sampler R71). -/
def effAmp (level maxAmplitude : Byte) : Nat := rhu (level.toNat * maxAmplitude.toNat) 255

/-- Step 4, the target duty (42_sampler R72). -/
def targetDuty (n : Byte) (amplitude : Nat) : Nat := rhu (n.toNat * amplitude) 255

/-- Step 5, one step of the one-pole filter with factor `alphaNum / alphaDen` (42_sampler R73). -/
def smooth (c : ConfigRegs) (target duty : Nat) : Nat :=
  rhu (c.alphaNum.toNat * target + (c.alphaDen.toNat - c.alphaNum.toNat) * duty) c.alphaDen.toNat

/-- Steps 3 to 6 up to the clamp: the next duty, from the level, the noise value and the previous
duty (42_sampler R71 to R74). -/
def nextDuty (c : ConfigRegs) (level n duty : Byte) : Byte :=
  BitVec.ofNat 8
    (clamp (smooth c (targetDuty n (effAmp level c.maxAmplitude)) duty.toNat) 0 255)

/-- Steps before the noise is asked: the sample clock and the advanced position (42_sampler R66, R67). -/
def advance (now : Time) (s : State) : State :=
  { s with lastSampleTime := now, position := s.position + s.cfg.noiseStep }

/-- Step 6: the duty to the register and the sink, the fixed direction to the sink (42_sampler R74,
R75). The order of the two sink calls is the spec's decision D14, on which no claim should rest
(log 16). -/
def emit (duty : Byte) (s : State) : State :=
  sinkDir s.cfg.dirLevel (sinkDuty duty { s with currentDuty := duty })

/-- SAMPLE with a given noise source, which answers NOISE_VAL for the position on NOISE_POS
(42_sampler R65, R68). -/
def sampleWith (noise : Position → Byte) (now : Time) (s : State) : State :=
  if sampleDue now s then
    let s := advance now s
    emit (nextDuty s.cfg s.level (noise s.noisePos) s.currentDuty) s
  else
    s

/-- SAMPLE (42_sampler R65), with the noise source of which nothing is known (R68). -/
def sample (now : Time) (s : State) : State := sampleWith Config.noise now s

end Sys2Proof.Machine
end

