-- ==== Sys2Proof/Machine/Watchdog.lean ====
section
/-!
DEFINITION. The Watchdog, the first phase of TICK (41_watchdog R60).
-/

namespace Sys2Proof.Machine

/-- WDG: when the link-loss condition holds, the stop transition and a cleared zero count
(41_watchdog R60). -/
def watchdog (now : Time) (s : State) : State :=
  if watchdogDue now s then { stop s with zeroStreak := 0 } else s

end Sys2Proof.Machine
end

