-- ==== Sys2Proof/Machine/Tick.lean ====
section
/-!
DEFINITION. The TICK command: the watchdog, then the sampler, with the same `now` (43_tick_fsm R80).
-/

namespace Sys2Proof.Machine

/-- TICK (43_tick_fsm R80). SEED is ignored. -/
def execTick (s : State) : Host.Outcome State Fault Refusal :=
  underLegalConfig s (sample s.now (watchdog s.now s))

end Sys2Proof.Machine
end

