-- ==== Sys2Proof/Machine/Dispatch.lean ====
section
/-!
DEFINITION. What each command does: one arm per row of the opcode map (30_encoding R45).
-/

namespace Sys2Proof.Machine

def exec (i : Instr) (s : State) : Host.Outcome State Fault Refusal :=
  match i with
  | .frame univ length => Sys2Proof.Machine.execFrame univ length s
  | .tick => Sys2Proof.Machine.execTick s

end Sys2Proof.Machine
end

