-- ==== Sys2Proof/Machine/HostSide.lean ====
section
/-!
DEFINITION. The block's side of its ports: taking a command from the command port (30_encoding R40,
R41), and what each move of the host does (70_reset R100 to R102, R114; 20_memory R32), with the
pseudo-commands of 30_encoding R48 as lists of moves.
-/

namespace Sys2Proof.Machine

/-- The command on the command port, decoded from CW as it stands (30_encoding R40, R45). -/
def State.offered (s : State) : Except DecodeError Instr := decode s.cw

/-- The state in which a transferred command runs: the offer has been taken, and CW, NOW and SEED
keep the sampled levels for the whole command (30_encoding R40). DEDUCED (log 11): CMD_VALID falls
with the transfer, since one offer is one command. -/
def State.taken (s : State) : State := { s with cmdValid := false }

/-- What one move of the host does. What R105 forbids the host has no move: the run is refused
(70_reset R104; log 12). -/
def hostMove (m : HostMove) (s : State) : Host.Outcome State Fault Refusal :=
  match m with
  | .writeFb addr data => .next { s with fb := Memory.write s.fb addr.toNat data }
  | .offer cw now seed =>
    if s.takesOffer then
      .next { s with cmdValid := true, cw := cw, now := now, seed := seed.getD s.seed }
    else .refused .offerNotReady
  | .driveConfig inputs => .next { s with cfgIn := inputs }
  | .assertReset => .next (resetRegisters { s with resetIn := true })
  | .releaseReset =>
    if s.resetIn then
      if s.cfgIn.legal then
        .next (resetRegisters { s with resetIn := false, cfg := s.cfgIn })
      else .refused .illegalConfig
    else .next s

/-- The host's turn: its next move, or nothing when it has none (an idle bus is no command,
30_encoding R46). -/
def hostTurn (s : State) : Host.Outcome State Fault Refusal :=
  match s.host with
  | [] => .next s
  | m :: rest => hostMove m { s with host := rest }

/-- The pseudo-command `VALUE v @t [seed=s]` (30_encoding R48): the shortest frame that passes the
filter, with the channel byte `v`. -/
def valueMoves (c : ConfigRegs) (v : Byte) (t : Time) (seed : Option Position) : List HostMove :=
  [.writeFb (BitVec.ofNat 9 c.channelAddress) v,
   .offer (encode (.frame c.univ (c.channel.setWidth 16))) t seed]

/-- The pseudo-command `ITER @t` (30_encoding R48), and the TICK with which every iteration ends. -/
def tickMoves (t : Time) : List HostMove := [.offer (encode .tick) t none]

/-- The pseudo-command `ITER v @t [seed=s]` (30_encoding R48): one loop iteration with a frame. -/
def iterMoves (c : ConfigRegs) (v : Byte) (t : Time) (seed : Option Position) : List HostMove :=
  valueMoves c v t seed ++ tickMoves t

end Sys2Proof.Machine
end

