-- ==== Sys2Proof/Machine/Step.lean ====
section
/-!
DEFINITION. One step of the system: the block runs the command on its port when one is transferred,
and otherwise the host has its turn. All steps are one total order (20_memory R35, 70_reset R106).
-/

namespace Sys2Proof.Machine

/-- One step. A transferred command runs whole (70_reset R106); a reserved word is refused
(30_encoding R46). -/
def step (s : State) : Host.Outcome State Fault Refusal :=
  if s.transfers then
    match s.offered with
    | .ok i => exec i s.taken
    | .error why => .refused (.reservedWord why)
  else hostTurn s

/-- The state with the word `w` on the command port, so that the next step transfers and runs it:
CMD_VALID is raised and RESET is low (log 2). NOW and SEED stay as they are. -/
def State.withFetchWord (s : State) (_nbits w : Nat) : State :=
  { s with resetIn := false, cmdValid := true, cw := BitVec.ofNat 40 w }

end Sys2Proof.Machine
end

