-- ==== Sys2Proof/Machine/Assembler.lean ====
section
/-!
DEFINITION. The textual form of commands, host writes and pseudo-commands (30_encoding R47, R48): one
line of text as the moves the host makes. The notation is the spec's own (D21).
-/

namespace Sys2Proof.Machine.Assembler

/-- The rest of a text after a fixed word, if the text begins with it. -/
def stripWord : List Char → List Char → Option (List Char)
  | [], t => some t
  | _ :: _, [] => none
  | c :: w, d :: t => if c = d then stripWord w t else none

/-- The value of a digit: its place among the digits, of either case from ten on (log 20). -/
def digitValue (c : Char) : Option Nat :=
  ("0123456789ABCDEF".toList.idxOf? c).or ("0123456789abcdef".toList.idxOf? c)

/-- The longest run of digits of a base, added to the value read so far, and what follows it. -/
def digits (base : Nat) : Nat → List Char → Nat × List Char
  | acc, [] => (acc, [])
  | acc, c :: t =>
    match digitValue c with
    | some d => if d < base then digits base (base * acc + d) t else (acc, c :: t)
    | none => (acc, c :: t)

/-- A number with at least one digit. -/
def digitsSome (base : Nat) (t : List Char) : Option (Nat × List Char) :=
  if (digits base 0 t).2.length < t.length then some (digits base 0 t) else none

/-- A number: decimal, or hexadecimal with the sign 0x before it (30_encoding R47). -/
def number (t : List Char) : Option (Nat × List Char) :=
  match stripWord ['0', 'x'] t with
  | some h => digitsSome 16 h
  | none => digitsSome 10 t

/-- A fixed word and then a number below a bound. -/
def field (word : List Char) (bound : Nat) (t : List Char) : Option (Nat × List Char) :=
  match stripWord word t with
  | none => none
  | some t =>
    match number t with
    | none => none
    | some (n, t) => if n < bound then some (n, t) else none

/-- The end of a line: `@<now>` and then possibly `seed=<seed>` (30_encoding R47). -/
def timed (t : List Char) : Option (Time × Option Position) :=
  match field ['@'] (2 ^ 32) t with
  | none => none
  | some (now, []) => some (BitVec.ofNat 32 now, none)
  | some (now, t) =>
    match field ['s', 'e', 'e', 'd', '='] (2 ^ 32) t with
    | some (seed, []) => some (BitVec.ofNat 32 now, some (BitVec.ofNat 32 seed))
    | _ => none

/-- `FRAME u=<universe>, len=<length> @<now> [seed=<seed>]` (30_encoding R47). -/
def frameLine (t : List Char) : Option (List HostMove) :=
  match field ['F', 'R', 'A', 'M', 'E', 'u', '='] (2 ^ 16) t with
  | none => none
  | some (u, t) =>
    match field [',', 'l', 'e', 'n', '='] (2 ^ 16) t with
    | none => none
    | some (len, t) =>
      (timed t).map fun p =>
        [.offer (encode (.frame (BitVec.ofNat 16 u) (BitVec.ofNat 16 len))) p.1 p.2]

/-- `TICK @<now>` (30_encoding R47). -/
def tickLine (t : List Char) : Option (List HostMove) :=
  match stripWord ['T', 'I', 'C', 'K'] t with
  | none => none
  | some t =>
    match timed t with
    | some (now, none) => some (tickMoves now)
    | _ => none

/-- `FB[<addr>] <- <byte>` (30_encoding R47). -/
def writeLine (t : List Char) : Option (List HostMove) :=
  match field ['F', 'B', '['] Memory.size t with
  | none => none
  | some (a, t) =>
    match field [']', '<', '-'] 256 t with
    | some (b, []) => some [.writeFb (BitVec.ofNat 9 a) (BitVec.ofNat 8 b)]
    | _ => none

/-- `VALUE v @t [seed=s]` (30_encoding R48). -/
def valueLine (c : ConfigRegs) (t : List Char) : Option (List HostMove) :=
  match field ['V', 'A', 'L', 'U', 'E'] 256 t with
  | none => none
  | some (v, t) => (timed t).map fun p => valueMoves c (BitVec.ofNat 8 v) p.1 p.2

/-- `ITER @t` and `ITER v @t [seed=s]` (30_encoding R48). -/
def iterLine (c : ConfigRegs) (t : List Char) : Option (List HostMove) :=
  match field ['I', 'T', 'E', 'R'] 256 t with
  | some (v, t) => (timed t).map fun p => iterMoves c (BitVec.ofNat 8 v) p.1 p.2
  | none =>
    match stripWord ['I', 'T', 'E', 'R'] t with
    | none => none
    | some t =>
      match timed t with
      | some (now, none) => some (tickMoves now)
      | _ => none

/-- One line of text as the moves it stands for, relative to a configuration: what follows a
semicolon is a comment, and spaces do not count (30_encoding R47, R48). -/
def line (c : ConfigRegs) (text : List Char) : Option (List HostMove) :=
  match (text.takeWhile (· != ';')).filter (· != ' ') with
  | [] => some []
  | t => frameLine t <|> tickLine t <|> writeLine t <|> valueLine c t <|> iterLine c t

end Sys2Proof.Machine.Assembler
end

