-- ==== Sys2Proof/Safety.lean ====
section
/-!
DEFINITION. The terms claims are stated in: what can be seen of the output trace (10_state R28), the
invariants that hold between commands (43_tick_fsm R84 to R87), which differences between two states
no rule can see (10_state R16, R17), and the host profile LoopProfile (43_tick_fsm R81).
-/

namespace Sys2Proof.Machine

/-! ## The output trace -/

/-- The argument of the last `Duty` event of a trace, if there is one (10_state R28). -/
def lastDuty (out : List SinkEvent) : Option Byte :=
  out.foldl (fun last e => match e with | .duty d => some d | .dir _ => last) none

/-- The argument of the last `Dir` event of a trace, if there is one (10_state R28). -/
def lastDir (out : List SinkEvent) : Option (BitVec 1) :=
  out.foldl (fun last e => match e with | .duty _ => last | .dir l => some l) none

/-- An event a block with this configuration may emit: no duty above the ceiling (42_sampler R76), no
direction but the fixed one (42_sampler R75). -/
def SinkEvent.within (c : ConfigRegs) : SinkEvent → Bool
  | .duty d => decide (d.toNat ≤ c.maxAmplitude.toNat)
  | .dir l => l == c.dirLevel

/-! ## Time -/

/-- The elapsed time from `before` to `now` in whole units, modulo 2^TW (00_scope R7). -/
def elapsed (now before : Time) : Nat :=
  (now.toNat + 2 ^ timeWidth - before.toNat) % 2 ^ timeWidth

/-! ## The invariants between commands -/

/-- What holds of every state between commands (10_state R18, R28, R29; 43_tick_fsm R84 to R87;
42_sampler R75, R76; 70_reset R105; 20_memory R30). -/
structure Inv (s : State) : Prop where
  /-- The latched configuration is legal (R18). -/
  legal : s.cfg.legal = true
  /-- Running exactly while the level is at least 1 (R85). -/
  level : s.running = true ↔ 1 ≤ s.level.toNat
  /-- The zero count is below the threshold (R86). -/
  streak : s.zeroStreak.toNat < s.cfg.threshold.toNat
  /-- Stopped implies duty 0 (R87). -/
  quiet : s.running = false → s.currentDuty = 0
  /-- DUTY_OUT is the current duty (R84). -/
  dutyOut : s.dutyOut = s.currentDuty
  /-- The current duty is that of the last `Duty` event, or 0 (R13, R28). -/
  lastDuty : s.currentDuty = (lastDuty s.out).getD 0
  /-- Once a `Dir` event exists, DIR_OUT is that of the last one (R28). -/
  lastDir : ∀ l, lastDir s.out = some l → s.dirOut = l
  /-- Every event keeps to the ceiling and to the fixed direction (R75, R76). -/
  within : ∀ e ∈ s.out, e.within s.cfg = true
  /-- No offer waits while RESET is asserted (R105, log 12). -/
  port : s.resetIn = true → s.cmdValid = false
  /-- The frame buffer is in its form (R30). -/
  memory : Memory.wf s.fb

/-! ## What no rule can see -/

/-- Two states that differ at most in what no rule reads: while STOPPED, the two timestamps and the
position (10_state R16, R17, 43_tick_fsm R88, U6, U9); before the first `Dir` event, DIR_OUT (U7). -/
def SameToRules (s t : State) : Prop :=
  t = { s with
    lastFrameTime := t.lastFrameTime
    lastSampleTime := t.lastSampleTime
    position := t.position
    dirOut := t.dirOut } ∧
  (s.running = true → t.lastFrameTime = s.lastFrameTime ∧ t.lastSampleTime = s.lastSampleTime ∧
    t.position = s.position) ∧
  (lastDir s.out ≠ none → t.dirOut = s.dirOut)

/-- Two outcomes of a step that no rule can tell apart. -/
def SameOutcome : Host.Outcome State Fault Refusal → Host.Outcome State Fault Refusal → Prop
  | .next s, .next t => SameToRules s t
  | .refused r, .refused q => r = q
  | _, _ => False

/-! ## Frames one after another -/

/-- One FRAME after another with the same word, each with its own levels on NOW and SEED. -/
def frames (univ length : Half) :
    List (Time × Position) → State → Host.Outcome State Fault Refusal
  | [], s => .next s
  | (now, seed) :: rest, s =>
    match exec (.frame univ length) { s with now := now, seed := seed } with
    | .next t => frames univ length rest t
    | .fault r => .fault r
    | .refused r => .refused r

/-! ## The host profile (43_tick_fsm R81) -/

/-- One loop iteration: its true time, the frame that came, if one did, and what the host puts on SEED
with the TICK, which ignores it (30_encoding R41). -/
structure Iteration where
  time : Nat
  frame : Option (Half × Half × Option Position)
  tickSeed : Option Position
  deriving DecidableEq, Repr

/-- The level of NOW at a true time: the clock is TW bits wide (70_reset R108). -/
def clock (time : Nat) : Time := BitVec.ofNat timeWidth time

/-- The commands of one loop iteration: an optional FRAME and one TICK with the same `now`. -/
def Iteration.commands (i : Iteration) : List HostMove :=
  (match i.frame with
    | some (univ, length, seed) => [.offer (encode (.frame univ length)) (clock i.time) seed]
    | none => []) ++ [.offer (encode .tick) (clock i.time) i.tickSeed]

/-- A move of the host that issues a command. -/
def HostMove.isCommand : HostMove → Bool
  | .offer _ _ _ => true
  | _ => false

/-- LoopProfile: the commands among the moves are those of loop iterations whose true times do not
decrease (43_tick_fsm R81). A premise a claim may take; the block does not enforce it. -/
def LoopProfile (moves : List HostMove) : Prop :=
  ∃ its : List Iteration, its.Pairwise (fun a b => a.time ≤ b.time) ∧
    moves.filter HostMove.isCommand = its.flatMap Iteration.commands

end Sys2Proof.Machine
end

