-- ==== Sys2Proof/Certificates/Slice0/Obligations.lean ====
section
/-!
DEFINITION. The statements for the provers, each from the numbered rules of spec/.
-/

open Sys2Proof Sys2Proof.Machine

/-! ## Encoding (30_encoding) -/

/-- Every well-formed command is read back from its own word, with every operand at every value
(30_encoding R42, R43, R45). -/
def Obligations.DecodeReadsBackEveryEncodedCommand : Prop :=
  ∀ i : Instr, i.wellFormed = true → decode (encode i) = .ok i

/-- A word that decodes is the word of the command it decodes to: no bit of it is dropped
(30_encoding R42, R45). -/
def Obligations.EncodeReadsBackEveryDecodedWord : Prop :=
  ∀ (w : CommandWord) (i : Instr), decode w = .ok i → encode i = w

/-- The decoder agrees with the opcode map's masks and matches, and the two rows never match one word
(30_encoding R45). -/
def Obligations.DecoderFollowsTheOpcodeMap : Prop :=
  ∀ w : CommandWord,
    ((∃ univ length, decode w = .ok (.frame univ length)) ↔
      w &&& 0xFF00000000#40 = 0x0100000000#40) ∧
    (decode w = .ok .tick ↔ w &&& 0xFFFFFFFFFF#40 = 0x0200000000#40) ∧
    ¬ (w &&& 0xFF00000000#40 = 0x0100000000#40 ∧ w &&& 0xFFFFFFFFFF#40 = 0x0200000000#40)

/-- The fields of a FRAME word as numbers: `op` 1 in bits 39:32, `universe` in bits 31:16, `length` in
bits 15:0 (30_encoding R42, R43). -/
def Obligations.FrameFieldsAreBitSlices : Prop :=
  ∀ (w : CommandWord) (univ length : Half), decode w = .ok (.frame univ length) →
    w.toNat / 2 ^ 32 = 1 ∧ univ.toNat = w.toNat / 2 ^ 16 % 2 ^ 16 ∧ length.toNat = w.toNat % 2 ^ 16

/-- A transferred reserved word is refused: `op` 0x00, `op` 0x03 to 0xFF, and `op` 0x02 with CW[31:0]
not zero (30_encoding R46). -/
def Obligations.ReservedWordsAreRefused : Prop :=
  ∀ s : State, s.cmdValid = true → s.resetIn = false →
    (s.cw.toNat / 2 ^ 32 = 0 ∨ 3 ≤ s.cw.toNat / 2 ^ 32 ∨
      (s.cw.toNat / 2 ^ 32 = 2 ∧ s.cw.toNat % 2 ^ 32 ≠ 0)) →
    ∃ why, step s = .refused (.reservedWord why)

/-- The worked encodings (30_encoding R49). A sanity check. -/
def Obligations.WorkedEncodings : Prop :=
  decode 0x0100030002#40 = .ok (.frame 3 2) ∧
  decode 0x0100000200#40 = .ok (.frame 0 512) ∧
  decode 0x0200000000#40 = .ok .tick ∧
  decode 0x0200000001#40 = .error (.tickOperandNotZero 1) ∧
  encode (.frame 3 2) = 0x0100030002#40 ∧
  encode .tick = 0x0200000000#40

/-! ## The step (30_encoding R40, 20_memory R35, 70_reset R106) -/

/-- When a command is valid, RESET is low and CW decodes, the step is that command's meaning, with the
offer taken. That CMD_VALID falls with the transfer is the model's reading (log 11). -/
def Obligations.StepRunsTheTransferredCommand : Prop :=
  ∀ (s : State) (i : Instr), s.cmdValid = true → s.resetIn = false → decode s.cw = .ok i →
    step s = exec i { s with cmdValid := false }

/-- When no command is transferred, the host makes its next move, or nothing happens. That the host's
moves are a list in the state is the model's own form (log 1). -/
def Obligations.StepWithoutTransferIsTheHostsMove : Prop :=
  ∀ s : State, s.cmdValid = false ∨ s.resetIn = true →
    (s.host = [] → step s = .next s) ∧
    (∀ m rest, s.host = m :: rest → step s = hostMove m { s with host := rest })

/-- Under a legal configuration every command completes in every state: no fault, no refusal
(60_exceptions R90). -/
def Obligations.EveryCommandCompletes : Prop :=
  ∀ (i : Instr) (s : State), s.cfg.legal = true → ∃ t, exec i s = .next t

/-- Under an illegal configuration every command is refused, and so is the release of RESET with
illegal values on the configuration inputs (10_state R18; where the model refuses is log 14). -/
def Obligations.IllegalConfigurationIsRefused : Prop :=
  (∀ (i : Instr) (s : State), s.cfg.legal = false → exec i s = .refused .illegalConfig) ∧
  (∀ (s : State) (rest : List HostMove), s.resetIn = true → s.host = .releaseReset :: rest →
    s.cfgIn.legal = false → step s = .refused .illegalConfig)

/-- The legal configurations, register by register (10_state R18, R20, R21, R25). -/
def Obligations.LegalConfigurationRanges : Prop :=
  ∀ c : ConfigRegs, c.legal = true ↔
    (1 ≤ c.channel.toNat ∧ c.channel.toNat ≤ 512) ∧ c.threshold.toNat ≠ 0 ∧
    (0 < c.alphaNum.toNat ∧ c.alphaNum.toNat < c.alphaDen.toNat)

/-! ## FRAME (40_debounce) -/

/-- FRAME processes a frame of its universe whose length covers the channel, with the byte at address
CFG.channel - 1, and a frame that fails either check changes nothing (40_debounce R50, R51). -/
def Obligations.FrameFilterDropsOrProcesses : Prop :=
  ∀ (univ length : Half) (s : State), s.cfg.legal = true →
    (univ = s.cfg.univ ∧ s.cfg.channel.toNat ≤ length.toNat →
      exec (.frame univ length) s =
        .next (channelStep (Memory.read s.fb (s.cfg.channel.toNat - 1)) s.now s.seed s)) ∧
    (¬ (univ = s.cfg.univ ∧ s.cfg.channel.toNat ≤ length.toNat) →
      exec (.frame univ length) s = .next s)

/-- The channel step. A processed frame always records its time. A zero frame is counted: below the
threshold nothing else changes, and at the threshold the count is cleared, and a running block takes
the stop transition (duty 0 to the sink and the register, level 0, not running). A nonzero frame
takes the nonzero path, of which NonzeroFrameSetsLevelOrStarts says the rest (40_debounce R52,
R55). -/
def Obligations.ZeroFrameCountsOrStops : Prop :=
  ∀ (univ length : Half) (s : State) (v : Byte), s.cfg.legal = true →
    univ = s.cfg.univ → s.cfg.channel.toNat ≤ length.toNat →
    Memory.read s.fb (s.cfg.channel.toNat - 1) = v →
    (v = 0 → s.zeroStreak.toNat + 1 < s.cfg.threshold.toNat →
      exec (.frame univ length) s =
        .next { s with lastFrameTime := s.now, zeroStreak := s.zeroStreak + 1 }) ∧
    (v = 0 → s.cfg.threshold.toNat ≤ s.zeroStreak.toNat + 1 → s.running = true →
      exec (.frame univ length) s =
        .next { s with
          lastFrameTime := s.now, zeroStreak := 0, running := false, level := 0, currentDuty := 0,
          dutyOut := 0, out := s.out ++ [.duty 0] }) ∧
    (v = 0 → s.cfg.threshold.toNat ≤ s.zeroStreak.toNat + 1 → s.running = false →
      exec (.frame univ length) s = .next { s with lastFrameTime := s.now, zeroStreak := 0 }) ∧
    (v ≠ 0 →
      exec (.frame univ length) s =
        .next (nonzeroFrame v s.now s.seed { s with lastFrameTime := s.now }))

/-- A processed nonzero frame: the time is recorded, the zero count cleared, the level set. A stopped
block starts: it runs, the position is the seed, the sample clock is the frame's time, and neither
the duty nor the sink is touched. A running block is not reseeded (40_debounce R53, R54). -/
def Obligations.NonzeroFrameSetsLevelOrStarts : Prop :=
  ∀ (univ length : Half) (s : State) (v : Byte), s.cfg.legal = true →
    univ = s.cfg.univ → s.cfg.channel.toNat ≤ length.toNat →
    Memory.read s.fb (s.cfg.channel.toNat - 1) = v → v ≠ 0 →
    (s.running = true →
      exec (.frame univ length) s =
        .next { s with lastFrameTime := s.now, zeroStreak := 0, level := v }) ∧
    (s.running = false →
      exec (.frame univ length) s =
        .next { s with
          lastFrameTime := s.now, zeroStreak := 0, level := v, running := true,
          position := s.seed, lastSampleTime := s.now })

/-- What FRAME leaves unchanged: the configuration, DIR_OUT, every byte of the frame buffer, the ports
and the host's moves always. The position and the sample clock change only in a start, and the duty,
DUTY_OUT and the trace only in a stop (40_debounce R50, R53, R54, R55). -/
def Obligations.FrameLeavesTheRestUnchanged : Prop :=
  ∀ (univ length : Half) (s t : State), exec (.frame univ length) s = .next t →
    (t.cfg = s.cfg ∧ t.dirOut = s.dirOut ∧ (∀ a, Memory.read t.fb a = Memory.read s.fb a) ∧
      t.resetIn = s.resetIn ∧ t.cfgIn = s.cfgIn ∧ t.cmdValid = s.cmdValid ∧ t.cw = s.cw ∧
      t.now = s.now ∧ t.seed = s.seed ∧ t.host = s.host) ∧
    (t.position ≠ s.position ∨ t.lastSampleTime ≠ s.lastSampleTime →
      s.running = false ∧ t.running = true) ∧
    (t.currentDuty ≠ s.currentDuty ∨ t.dutyOut ≠ s.dutyOut ∨ t.out ≠ s.out →
      s.running = true ∧ t.running = false)

/-- From a running block with a zero count of 0, a run of processed zero frames below the threshold
only counts, and exactly the threshold-th one stops the block, with one `Duty(0)`. The times and
draws of the frames do not matter (40_debounce R57, items 2 and 3). -/
def Obligations.ZeroRunStopsExactlyAtTheThreshold : Prop :=
  ∀ (univ length : Half) (feed : List (Time × Position)) (s : State), s.cfg.legal = true →
    univ = s.cfg.univ → s.cfg.channel.toNat ≤ length.toNat →
    Memory.read s.fb (s.cfg.channel.toNat - 1) = 0 → s.running = true → s.zeroStreak = 0 →
    (feed.length < s.cfg.threshold.toNat →
      ∃ t, frames univ length feed s = .next t ∧ t.running = true ∧ t.level = s.level ∧
        t.currentDuty = s.currentDuty ∧ t.out = s.out ∧ t.zeroStreak.toNat = feed.length) ∧
    (feed.length = s.cfg.threshold.toNat →
      ∃ t, frames univ length feed s = .next t ∧ t.running = false ∧ t.level = 0 ∧
        t.currentDuty = 0 ∧ t.out = s.out ++ [.duty 0] ∧ t.zeroStreak = 0)

/-- FRAME depends on the frame buffer through one byte at most, the one at CFG.channel - 1, and a
dropped frame not even on that (20_memory R31, 40_debounce R51). -/
def Obligations.FrameReadsAtMostTheChannelByte : Prop :=
  ∀ (univ length : Half) (s t : State) (fb : List Host.Cell),
    (univ = s.cfg.univ ∧ s.cfg.channel.toNat ≤ length.toNat →
      Memory.read fb (s.cfg.channel.toNat - 1) = Memory.read s.fb (s.cfg.channel.toNat - 1)) →
    exec (.frame univ length) s = .next t →
    exec (.frame univ length) { s with fb := fb } = .next { t with fb := fb }

/-! ## TICK: the watchdog (41_watchdog, 43_tick_fsm) -/

/-- A TICK of a running block at which the timeout has elapsed since the last processed frame stops
the block and clears the zero count, and takes no sample, whatever the zero count, the level and the
sample clock are (41_watchdog R60, R61; 43_tick_fsm R80). -/
def Obligations.TickAtTheTimeoutStopsWithoutASample : Prop :=
  ∀ s : State, s.cfg.legal = true → s.running = true →
    s.cfg.timeout.toNat ≤ elapsed s.now s.lastFrameTime →
    exec .tick s =
      .next { s with
        running := false, level := 0, currentDuty := 0, zeroStreak := 0, dutyOut := 0,
        out := s.out ++ [.duty 0] }

/-- The watchdog phase: it fires exactly when the block runs and the timeout has elapsed, with the
effects of the stop transition and a cleared zero count, and otherwise does nothing
(41_watchdog R60). -/
def Obligations.WatchdogFiresExactlyAtItsCondition : Prop :=
  ∀ (now : Time) (s : State),
    (s.running = true → s.cfg.timeout.toNat ≤ elapsed now s.lastFrameTime →
      watchdog now s =
        { s with
          running := false, level := 0, currentDuty := 0, zeroStreak := 0, dutyOut := 0,
          out := s.out ++ [.duty 0] }) ∧
    (s.running = false ∨ elapsed now s.lastFrameTime < s.cfg.timeout.toNat → watchdog now s = s)

/-- A `now` one unit behind the last processed frame fires the watchdog at that TICK, for every
timeout (70_reset R108). -/
def Obligations.ClockOneBehindFiresTheWatchdog : Prop :=
  ∀ s : State, s.cfg.legal = true → s.running = true → s.lastFrameTime = s.now + 1 →
    ∃ t, exec .tick s = .next t ∧ t.running = false ∧ t.out = s.out ++ [.duty 0]

/-! ## TICK: the sampler (42_sampler) -/

/-- The sampler phase of a TICK in which the watchdog does not fire. A stopped block, and a running one
whose period has not elapsed, is unchanged. Otherwise one sample is taken, by the six steps in their
order, with one `Duty` and one `Dir`. The order of these two is left open, because no claim should
rest on it (42_sampler R65 to R68, R71 to R75). -/
def Obligations.TickTakesTheSampleOfTheSixSteps : Prop :=
  ∀ s : State, s.cfg.legal = true →
    (s.running = true → elapsed s.now s.lastFrameTime < s.cfg.timeout.toNat) →
    (s.running = false ∨ elapsed s.now s.lastSampleTime < s.cfg.samplePeriod.toNat →
      exec .tick s = .next s) ∧
    (s.running = true → s.cfg.samplePeriod.toNat ≤ elapsed s.now s.lastSampleTime →
      let position := s.position + s.cfg.noiseStep
      let n := Config.noise position
      let effAmp := rhu (s.level.toNat * s.cfg.maxAmplitude.toNat) 255
      let target := rhu (n.toNat * effAmp) 255
      let smoothed :=
        rhu (s.cfg.alphaNum.toNat * target +
          (s.cfg.alphaDen.toNat - s.cfg.alphaNum.toNat) * s.currentDuty.toNat) s.cfg.alphaDen.toNat
      let duty := BitVec.ofNat 8 (clamp smoothed 0 255)
      ∃ group, group.Perm [.duty duty, .dir s.cfg.dirLevel] ∧
        exec .tick s =
          .next { s with
            lastSampleTime := s.now, position := position, currentDuty := duty, dutyOut := duty,
            dirOut := s.cfg.dirLevel, out := s.out ++ group })

/-- A TICK of a stopped block changes no register and makes no sink call (42_sampler R79). -/
def Obligations.TickOfAStoppedBlockDoesNothing : Prop :=
  ∀ s : State, s.cfg.legal = true → s.running = false → exec .tick s = .next s

/-- What TICK leaves unchanged: the time of the last frame, the configuration, every byte of the frame
buffer, the ports and the host's moves always. It never starts the block. The level and the zero
count change only in a stop, the position, the sample clock and DIR_OUT only in a sample, and a
sample leaves the block running (42_sampler R78, 43_tick_fsm R80). -/
def Obligations.TickLeavesTheRestUnchanged : Prop :=
  ∀ s t : State, exec .tick s = .next t →
    (t.lastFrameTime = s.lastFrameTime ∧ t.cfg = s.cfg ∧
      (∀ a, Memory.read t.fb a = Memory.read s.fb a) ∧
      t.resetIn = s.resetIn ∧ t.cfgIn = s.cfgIn ∧ t.cmdValid = s.cmdValid ∧ t.cw = s.cw ∧
      t.now = s.now ∧ t.seed = s.seed ∧ t.host = s.host) ∧
    (t.running = true → s.running = true) ∧
    (t.level ≠ s.level ∨ t.zeroStreak ≠ s.zeroStreak → s.running = true ∧ t.running = false) ∧
    (t.position ≠ s.position ∨ t.lastSampleTime ≠ s.lastSampleTime ∨ t.dirOut ≠ s.dirOut →
      s.running = true ∧ t.running = true) ∧
    (s.running = false → t.currentDuty = s.currentDuty ∧ t.dutyOut = s.dutyOut ∧ t.out = s.out)

/-- TICK depends neither on SEED nor on the frame buffer (20_memory R31, 30_encoding R41,
43_tick_fsm R80). -/
def Obligations.TickIgnoresSeedAndFrameBuffer : Prop :=
  ∀ (s t : State) (seed : Position) (fb : List Host.Cell), exec .tick s = .next t →
    exec .tick { s with seed := seed, fb := fb } = .next { t with seed := seed, fb := fb }

/-- The sampler asks the noise source at the advanced position only, and not at all when it does not
fire: two sources that agree there give the same result (42_sampler R67, R68, R79). -/
def Obligations.SamplerAsksTheNoiseAtTheAdvancedPositionOnly : Prop :=
  ∀ (p q : Position → Byte) (now : Time) (s : State),
    (s.running = true → s.cfg.samplePeriod.toNat ≤ elapsed now s.lastSampleTime →
      p (s.position + s.cfg.noiseStep) = q (s.position + s.cfg.noiseStep)) →
    sampleWith p now s = sampleWith q now s

/-- Elapsed times survive a wrap of the clock: moving NOW and both stored times by the same amount,
modulo 2^TW, moves the result by that amount and changes nothing else (00_scope R7, 60_exceptions
R91). -/
def Obligations.TickDependsOnElapsedTimesOnly : Prop :=
  ∀ (s t : State) (k : Time), exec .tick s = .next t →
    exec .tick { s with
        now := s.now + k, lastFrameTime := s.lastFrameTime + k,
        lastSampleTime := s.lastSampleTime + k } =
      .next { t with
        now := t.now + k, lastFrameTime := t.lastFrameTime + k,
        lastSampleTime := t.lastSampleTime + k }

/-! ## The arithmetic of the sampler (42_sampler R70 to R77) -/

/-- `rhu(a, b)` is the nearest integer to `a / b`, a tie going upward, and with the divisor 255 there is
no tie (42_sampler R70). -/
def Obligations.RoundingIsToNearestTiesUpward : Prop :=
  (∀ a b : Nat, 0 < b → 2 * (b * rhu a b) ≤ 2 * a + b ∧ 2 * a < 2 * (b * rhu a b) + b) ∧
  (∀ a : Nat, 2 * (255 * rhu a 255) ≠ 2 * a + 255)

/-- The source's Scenarios C and E (42_sampler R71, R73). A sanity check. -/
def Obligations.ScenarioArithmetic : Prop :=
  effAmp 128 230 = 115 ∧ rhu (28 * 200 + 72 * 100) 100 = 128

/-- The amplitude is at most the ceiling and the target at most the amplitude (42_sampler R71, R72,
R76). -/
def Obligations.AmplitudeAndTargetKeepTheirCeilings : Prop :=
  ∀ level maxAmplitude n : Byte,
    effAmp level maxAmplitude ≤ maxAmplitude.toNat ∧
    targetDuty n (effAmp level maxAmplitude) ≤ effAmp level maxAmplitude

/-- One smoothing step lies between the target and the previous duty (42_sampler R77). -/
def Obligations.SmoothingDoesNotOvershoot : Prop :=
  ∀ (c : ConfigRegs) (target duty : Nat), c.legal = true →
    min target duty ≤ smooth c target duty ∧ smooth c target duty ≤ max target duty

/-- Only the ratio of the smoothing factor matters (42_sampler R73). -/
def Obligations.SmoothingDependsOnTheRatioOnly : Prop :=
  ∀ (c d : ConfigRegs) (target duty : Nat), c.legal = true → d.legal = true →
    c.alphaNum.toNat * d.alphaDen.toNat = d.alphaNum.toNat * c.alphaDen.toNat →
    smooth c target duty = smooth d target duty

/-- The clamp of step 6 changes nothing, and a sample's duty is at most the larger of the ceiling and
the previous duty (42_sampler R74, R76). -/
def Obligations.SampledDutyNeedsNoClamp : Prop :=
  ∀ (c : ConfigRegs) (level n duty : Byte), c.legal = true →
    (nextDuty c level n duty).toNat =
      smooth c (targetDuty n (effAmp level c.maxAmplitude)) duty.toNat ∧
    (nextDuty c level n duty).toNat ≤ max c.maxAmplitude.toNat duty.toNat

/-! ## One loop iteration (43_tick_fsm R81) -/

/-- In an iteration whose FRAME is processed, the TICK with the same `now` does not stop the block,
unless the timeout is 0, and if that FRAME started the block, the TICK changes nothing at all, unless
the sample period is 0 as well (43_tick_fsm R81). -/
def Obligations.FrameQuietsTheTickOfItsIteration : Prop :=
  ∀ (univ length : Half) (s t : State), s.cfg.legal = true →
    univ = s.cfg.univ → s.cfg.channel.toNat ≤ length.toNat → s.cfg.timeout ≠ 0 →
    exec (.frame univ length) s = .next t →
    ∃ r, exec .tick t = .next r ∧ r.running = t.running ∧ r.level = t.level ∧
      (s.running = false → s.cfg.samplePeriod ≠ 0 → r = t)

/-- The moves of loop iterations with frames, at true times that do not decrease, keep to LoopProfile
(30_encoding R48, 43_tick_fsm R81). -/
def Obligations.IterMovesKeepToTheLoopProfile : Prop :=
  ∀ (c : ConfigRegs) (its : List (Byte × Nat × Option Position)),
    its.Pairwise (fun a b => a.2.1 ≤ b.2.1) →
    LoopProfile (its.flatMap fun x => iterMoves c x.1 (clock x.2.1) x.2.2)

/-- The pseudo-command VALUE, made by the host of an idle block, is one processed frame with the
channel byte `v`, in three steps: the write, the offer, the command (30_encoding R48). -/
def Obligations.ValueIsOneProcessedFrame : Prop :=
  ∀ (s : State) (v : Byte) (now : Time) (seed : Option Position) (rest : List HostMove),
    s.cfg.legal = true → s.resetIn = false → s.cmdValid = false →
    s.host = valueMoves s.cfg v now seed ++ rest →
    Host.Core.run core 3 s =
      .next (channelStep v now (seed.getD s.seed)
        { s with
          host := rest
          fb := Memory.write s.fb (s.cfg.channel.toNat - 1) v
          cw := encode (.frame s.cfg.univ (s.cfg.channel.setWidth 16))
          now := now
          seed := seed.getD s.seed })

/-! ## Reset and the host (70_reset, 20_memory) -/

/-- The values the spec gives the machine right after reset (10_state R11, R28; 70_reset R100, R101).
The other fields hold the model's choices (logs 3, 4, 5 and 10) and are not stated. -/
def Obligations.ResetLeavesTheStatedValues : Prop :=
  State.reset.running = false ∧ State.reset.level = 0 ∧ State.reset.currentDuty = 0 ∧
  State.reset.zeroStreak = 0 ∧ State.reset.dutyOut = 0 ∧ State.reset.out = [] ∧
  State.reset.cmdReady = true ∧ State.reset.cfg.legal = true

/-- While RESET is asserted no command is accepted. Its release with legal inputs leaves the registers
at the values the spec gives, the configuration inputs latched, the trace empty, DUTY_OUT at 0 and the
frame buffer as it was. Only a release changes the configuration. The values of the registers without
a reset value are not stated (70_reset R100). -/
def Obligations.ReleaseOfResetLatchesAndClears : Prop :=
  (∀ s : State, s.resetIn = true → s.cmdReady = false ∧ step s = hostTurn s) ∧
  (∀ (s : State) (rest : List HostMove), s.resetIn = true → s.host = .releaseReset :: rest →
    s.cfgIn.legal = true →
    ∃ t, step s = .next t ∧ t.running = false ∧ t.level = 0 ∧ t.currentDuty = 0 ∧
      t.zeroStreak = 0 ∧ t.dutyOut = 0 ∧ t.out = [] ∧ t.cfg = s.cfgIn ∧ t.fb = s.fb ∧
      t.cmdReady = true ∧ t.host = rest) ∧
  (∀ s t : State, step s = .next t → t.cfg ≠ s.cfg →
    s.resetIn = true ∧ t.resetIn = false ∧ t.cfg = s.cfgIn)

/-- RESET asserted while running: DUTY_OUT goes to 0, the block is stopped, no event is recorded and
the trace is empty (70_reset R102). That this happens at the assertion is the model's reading
(log 13). -/
def Obligations.AssertedResetStopsWithoutAnEvent : Prop :=
  ∀ (s : State) (rest : List HostMove), s.transfers = false → s.host = .assertReset :: rest →
    ∃ t, step s = .next t ∧ t.running = false ∧ t.dutyOut = 0 ∧ t.out = [] ∧
      t.cmdReady = false ∧ t.cfg = s.cfg ∧ t.fb = s.fb

/-- Only the host changes the frame buffer, one byte at a time, and never in a step that runs a
command: every other byte reads as before. A host write takes effect: its byte is read back at its
address, and nothing else changes (20_memory R30, R32, R36). -/
def Obligations.OnlyHostWritesChangeTheFrameBuffer : Prop :=
  (∀ s t : State, step s = .next t → ∀ a,
    Memory.read t.fb a = Memory.read s.fb a ∨
    ∃ addr data rest, s.transfers = false ∧ s.host = .writeFb addr data :: rest ∧
      a = addr.toNat ∧ Memory.read t.fb a = data) ∧
  (∀ (s : State) (addr : BitVec 9) (data : Byte) (rest : List HostMove),
    s.transfers = false → s.host = .writeFb addr data :: rest →
    ∃ fb, step s = .next { s with host := rest, fb := fb } ∧
      Memory.read fb addr.toNat = data ∧
      ∀ a, a ≠ addr.toNat → Memory.read fb a = Memory.read s.fb a)

/-- New values on the configuration inputs change nothing but the levels of these inputs (70_reset
R111). -/
def Obligations.DrivenInputsChangeNothingElse : Prop :=
  ∀ (s : State) (inputs : ConfigRegs) (rest : List HostMove),
    s.transfers = false → s.host = .driveConfig inputs :: rest →
    step s = .next { s with host := rest, cfgIn := inputs }

/-- The command port: an offer raises CMD_VALID and puts its levels on CW, NOW and SEED. An offer made
while CMD_READY is false, that is while RESET is asserted, is forbidden to the host and has no move
(30_encoding R40, 70_reset R104, R105). That the run is refused there is the model's choice
(log 12). -/
def Obligations.OffersNeedAReadyPort : Prop :=
  ∀ (s : State) (cw : CommandWord) (now : Time) (seed : Option Position) (rest : List HostMove),
    s.transfers = false → s.host = .offer cw now seed :: rest →
    (s.resetIn = false →
      step s =
        .next { s with
          host := rest, cmdValid := true, cw := cw, now := now, seed := seed.getD s.seed }) ∧
    (s.resetIn = true → step s = .refused .offerNotReady)

/-! ## The whole machine (43_tick_fsm) -/

/-- The run/stop state machine has no other transition: a step starts the block only in a processed
nonzero frame, and stops it only in a processed zero frame that reaches the threshold, a TICK at
which the timeout has elapsed, or a reset (43_tick_fsm R82, R83; 70_reset R102). -/
def Obligations.OnlyTheseEventsStartOrStop : Prop :=
  ∀ s t : State, step s = .next t →
    (s.running = false → t.running = true →
      ∃ univ length, s.transfers = true ∧ decode s.cw = .ok (.frame univ length) ∧
        univ = s.cfg.univ ∧ s.cfg.channel.toNat ≤ length.toNat ∧
        Memory.read s.fb (s.cfg.channel.toNat - 1) ≠ 0) ∧
    (s.running = true → t.running = false →
      (∃ univ length, s.transfers = true ∧ decode s.cw = .ok (.frame univ length) ∧
        univ = s.cfg.univ ∧ s.cfg.channel.toNat ≤ length.toNat ∧
        Memory.read s.fb (s.cfg.channel.toNat - 1) = 0 ∧
        s.cfg.threshold.toNat ≤ s.zeroStreak.toNat + 1) ∨
      (s.transfers = true ∧ decode s.cw = .ok .tick ∧
        s.cfg.timeout.toNat ≤ elapsed s.now s.lastFrameTime) ∨
      (s.transfers = false ∧ ∃ m rest, s.host = m :: rest ∧
        (m = .assertReset ∨ m = .releaseReset)))

/-- The trace grows by whole groups: a step adds nothing, or the one `Duty(0)` of a stop, or the
`Duty` and the `Dir` of one sample in some order, or is a reset, which empties the trace (20_memory
R38, 40_debounce R50, 43_tick_fsm R80, 70_reset R100, R102). That the assertion of RESET empties it
already is the model's reading (log 13). -/
def Obligations.TraceGrowsByWholeGroups : Prop :=
  ∀ s t : State, step s = .next t →
    t.out = s.out ∨
    (s.running = true ∧ t.running = false ∧ t.out = s.out ++ [.duty 0]) ∨
    (s.running = true ∧ t.running = true ∧ ∃ group, t.out = s.out ++ group ∧
      group.Perm [.duty t.currentDuty, .dir s.cfg.dirLevel]) ∨
    (s.transfers = false ∧ t.out = [] ∧ ∃ m rest, s.host = m :: rest ∧
      (m = .assertReset ∨ m = .releaseReset))

/-- A stopped block makes no sink call and keeps its duty, whatever the command (40_debounce R55,
43_tick_fsm R82, R87). -/
def Obligations.CommandsOfAStoppedBlockMakeNoSinkCall : Prop :=
  ∀ (i : Instr) (s t : State), s.running = false → exec i s = .next t →
    t.out = s.out ∧ t.dutyOut = s.dutyOut ∧ t.dirOut = s.dirOut ∧ t.currentDuty = s.currentDuty

/-- The invariants between commands hold of the state after reset (70_reset R101). The latched
configuration of that state is the model's choice (log 3). -/
def Obligations.InvariantsHoldAfterReset : Prop := Inv State.reset

/-- Every step keeps the invariants: a legal configuration, running exactly while the level is at
least 1, the zero count below the threshold, duty 0 when stopped, DUTY_OUT equal to the duty and to
the last `Duty` event, DIR_OUT equal to the last `Dir` event, no duty above the ceiling, the one fixed
direction, no offer waiting while RESET is asserted, and the form of the frame buffer (43_tick_fsm
R84 to R87, 10_state R28, 42_sampler R75, R76, 70_reset R105). That no offer waits there comes from
the model's refusal (log 12). -/
def Obligations.EveryStepKeepsTheInvariants : Prop :=
  ∀ s t : State, Inv s → step s = .next t → Inv t

/-- Every step keeps the form of the frame buffer, of any state at all (20_memory R30). -/
def Obligations.EveryStepKeepsTheMemoryForm : Prop :=
  ∀ s t : State, Memory.wf s.fb → step s = .next t → Memory.wf t.fb

/-- No rule reads a register before it is written: two states that differ only in the timestamps and
the position of a stopped block, or in a DIR_OUT no `Dir` event has set, go on alike. So the values
the model gives these at reset (logs 4 and 5) can be seen nowhere (10_state R16, R17; 43_tick_fsm
R88). -/
def Obligations.UnwrittenRegistersAreNeverRead : Prop :=
  ∀ s t : State, SameToRules s t → SameOutcome (step s) (step t)

/-! ## The notation (30_encoding R47, R48) -/

/-- Lines of the textual form and the moves they stand for. A sanity check. -/
def Obligations.AssembledLines : Prop :=
  Assembler.line .cfgEx "FRAME u=3, len=2 @1000 seed=100 ; a start".toList =
      some [.offer 0x0100030002#40 1000 (some 100)] ∧
  Assembler.line .cfgEx "TICK @0x2E8".toList = some [.offer 0x0200000000#40 744 none] ∧
  Assembler.line .cfgEx "FB[1] <- 255".toList = some [.writeFb 1 255] ∧
  Assembler.line .cfgEx "ITER 5 @102".toList =
      some [.writeFb 1 5, .offer 0x0100030002#40 102 none, .offer 0x0200000000#40 102 none] ∧
  Assembler.line .cfgEx "TICK @".toList = none
end

