-- ==== Sys2Proof/Laws/Memory.lean ====
section
/-!
SUPPORT. The laws of the frame buffer: what a read gives after a write, and that a write keeps the
form of the memory.
-/

namespace Sys2Proof.Machine

/-- What is written at an address after one write. -/
theorem written_write (m : List Host.Cell) (a x : Nat) (b : Byte) :
    Memory.written (Memory.write m a b) x = if a = x then some b else Memory.written m x := by
  induction m with
  | nil => simp [Memory.write, Memory.written]
  | cons c m ih =>
    unfold Memory.write
    split
    · simp [Memory.written]
    · split
      · next h => by_cases hx : a = x <;> simp [Memory.written, ← h, hx]
      · next h1 h2 =>
        simp only [Memory.written, ih]
        by_cases hc : c.1 = x
        · have : a ≠ x := by omega
          simp [hc, this]
        · simp [hc]

/-- A read of the byte just written gives it (20_memory R31, R32). -/
@[simp] theorem read_write_same (m : List Host.Cell) (a : Nat) (b : Byte) :
    Memory.read (Memory.write m a b) a = b := by
  simp [Memory.read, written_write]

/-- A write leaves every other location alone (20_memory R32). -/
theorem read_write_other (m : List Host.Cell) {a x : Nat} (b : Byte) (h : a ≠ x) :
    Memory.read (Memory.write m a b) x = Memory.read m x := by
  simp [Memory.read, written_write, h]

/-- The addresses listed after a write: the written one and those listed before. -/
theorem mem_write {m : List Host.Cell} {a : Nat} {b : Byte} {c : Host.Cell}
    (h : c ∈ Memory.write m a b) : c.1 = a ∨ c ∈ m := by
  induction m with
  | nil => simp_all [Memory.write]
  | cons d m ih =>
    unfold Memory.write at h
    split at h
    · simp only [List.mem_cons] at h ⊢
      rcases h with rfl | h | h <;> simp_all
    · split at h
      · simp only [List.mem_cons] at h ⊢
        rcases h with rfl | h <;> simp_all
      · simp only [List.mem_cons] at h ⊢
        rcases h with h | h
        · simp [h]
        · rcases ih h with h | h <;> simp [h]

/-- A write into the address space keeps the form of the memory. -/
theorem write_wf {m : List Host.Cell} {a : Nat} (b : Byte) (ha : a < Memory.size)
    (h : Memory.wf m) : Memory.wf (Memory.write m a b) := by
  obtain ⟨hs, hb⟩ := h
  refine ⟨?_, fun c hc => ?_⟩
  · clear hb
    induction m with
    | nil => simp [Memory.write]
    | cons d m ih =>
      rw [List.pairwise_cons] at hs
      unfold Memory.write
      split
      · next hlt =>
        refine List.pairwise_cons.2 ⟨fun e he => ?_, List.pairwise_cons.2 hs⟩
        rcases List.mem_cons.1 he with rfl | he
        · exact hlt
        · exact Nat.lt_trans hlt (hs.1 e he)
      · split
        · next heq => exact List.pairwise_cons.2 ⟨fun e he => heq ▸ hs.1 e he, hs.2⟩
        · next hlt hne =>
          refine List.pairwise_cons.2 ⟨fun e he => ?_, ih hs.2⟩
          rcases mem_write he with h | h
          · omega
          · exact hs.1 e h
  · rcases mem_write hc with h | h
    · omega
    · exact hb c h

/-- The frame buffer after reset is in its form. -/
theorem reset_wf : Memory.wf State.reset.fb := ⟨List.Pairwise.nil, by simp [State.reset]⟩

end Sys2Proof.Machine
end

