-- ==== Sys2Proof/Laws/State.lean ====
section
/-!
SUPPORT. What each named update leaves in each field of the state, so that no proof unfolds a record
update.
-/

namespace Sys2Proof.Machine

/-! ## SinkDuty writes DUTY_OUT and the trace (00_scope R7) -/

@[simp] theorem sinkDuty_running (d : Byte) (s : State) : (sinkDuty d s).running = s.running := rfl
@[simp] theorem sinkDuty_currentDuty (d : Byte) (s : State) : (sinkDuty d s).currentDuty = s.currentDuty := rfl
@[simp] theorem sinkDuty_level (d : Byte) (s : State) : (sinkDuty d s).level = s.level := rfl
@[simp] theorem sinkDuty_zeroStreak (d : Byte) (s : State) : (sinkDuty d s).zeroStreak = s.zeroStreak := rfl
@[simp] theorem sinkDuty_lastFrameTime (d : Byte) (s : State) : (sinkDuty d s).lastFrameTime = s.lastFrameTime := rfl
@[simp] theorem sinkDuty_lastSampleTime (d : Byte) (s : State) : (sinkDuty d s).lastSampleTime = s.lastSampleTime := rfl
@[simp] theorem sinkDuty_position (d : Byte) (s : State) : (sinkDuty d s).position = s.position := rfl
@[simp] theorem sinkDuty_cfg (d : Byte) (s : State) : (sinkDuty d s).cfg = s.cfg := rfl
@[simp] theorem sinkDuty_dutyOut (d : Byte) (s : State) : (sinkDuty d s).dutyOut = d := rfl
@[simp] theorem sinkDuty_dirOut (d : Byte) (s : State) : (sinkDuty d s).dirOut = s.dirOut := rfl
@[simp] theorem sinkDuty_out (d : Byte) (s : State) : (sinkDuty d s).out = s.out ++ [.duty d] := rfl
@[simp] theorem sinkDuty_fb (d : Byte) (s : State) : (sinkDuty d s).fb = s.fb := rfl
@[simp] theorem sinkDuty_resetIn (d : Byte) (s : State) : (sinkDuty d s).resetIn = s.resetIn := rfl
@[simp] theorem sinkDuty_cfgIn (d : Byte) (s : State) : (sinkDuty d s).cfgIn = s.cfgIn := rfl
@[simp] theorem sinkDuty_cmdValid (d : Byte) (s : State) : (sinkDuty d s).cmdValid = s.cmdValid := rfl
@[simp] theorem sinkDuty_cw (d : Byte) (s : State) : (sinkDuty d s).cw = s.cw := rfl
@[simp] theorem sinkDuty_now (d : Byte) (s : State) : (sinkDuty d s).now = s.now := rfl
@[simp] theorem sinkDuty_seed (d : Byte) (s : State) : (sinkDuty d s).seed = s.seed := rfl
@[simp] theorem sinkDuty_host (d : Byte) (s : State) : (sinkDuty d s).host = s.host := rfl

/-! ## SinkDir writes DIR_OUT and the trace (00_scope R7) -/

@[simp] theorem sinkDir_running (l : BitVec 1) (s : State) : (sinkDir l s).running = s.running := rfl
@[simp] theorem sinkDir_currentDuty (l : BitVec 1) (s : State) : (sinkDir l s).currentDuty = s.currentDuty := rfl
@[simp] theorem sinkDir_level (l : BitVec 1) (s : State) : (sinkDir l s).level = s.level := rfl
@[simp] theorem sinkDir_zeroStreak (l : BitVec 1) (s : State) : (sinkDir l s).zeroStreak = s.zeroStreak := rfl
@[simp] theorem sinkDir_lastFrameTime (l : BitVec 1) (s : State) : (sinkDir l s).lastFrameTime = s.lastFrameTime := rfl
@[simp] theorem sinkDir_lastSampleTime (l : BitVec 1) (s : State) : (sinkDir l s).lastSampleTime = s.lastSampleTime := rfl
@[simp] theorem sinkDir_position (l : BitVec 1) (s : State) : (sinkDir l s).position = s.position := rfl
@[simp] theorem sinkDir_cfg (l : BitVec 1) (s : State) : (sinkDir l s).cfg = s.cfg := rfl
@[simp] theorem sinkDir_dutyOut (l : BitVec 1) (s : State) : (sinkDir l s).dutyOut = s.dutyOut := rfl
@[simp] theorem sinkDir_dirOut (l : BitVec 1) (s : State) : (sinkDir l s).dirOut = l := rfl
@[simp] theorem sinkDir_out (l : BitVec 1) (s : State) : (sinkDir l s).out = s.out ++ [.dir l] := rfl
@[simp] theorem sinkDir_fb (l : BitVec 1) (s : State) : (sinkDir l s).fb = s.fb := rfl
@[simp] theorem sinkDir_resetIn (l : BitVec 1) (s : State) : (sinkDir l s).resetIn = s.resetIn := rfl
@[simp] theorem sinkDir_cfgIn (l : BitVec 1) (s : State) : (sinkDir l s).cfgIn = s.cfgIn := rfl
@[simp] theorem sinkDir_cmdValid (l : BitVec 1) (s : State) : (sinkDir l s).cmdValid = s.cmdValid := rfl
@[simp] theorem sinkDir_cw (l : BitVec 1) (s : State) : (sinkDir l s).cw = s.cw := rfl
@[simp] theorem sinkDir_now (l : BitVec 1) (s : State) : (sinkDir l s).now = s.now := rfl
@[simp] theorem sinkDir_seed (l : BitVec 1) (s : State) : (sinkDir l s).seed = s.seed := rfl
@[simp] theorem sinkDir_host (l : BitVec 1) (s : State) : (sinkDir l s).host = s.host := rfl

/-! ## START (40_debounce R54) -/

@[simp] theorem start_running (now : Time) (seed : Position) (s : State) : (start now seed s).running = true := rfl
@[simp] theorem start_currentDuty (now : Time) (seed : Position) (s : State) : (start now seed s).currentDuty = s.currentDuty := rfl
@[simp] theorem start_level (now : Time) (seed : Position) (s : State) : (start now seed s).level = s.level := rfl
@[simp] theorem start_zeroStreak (now : Time) (seed : Position) (s : State) : (start now seed s).zeroStreak = s.zeroStreak := rfl
@[simp] theorem start_lastFrameTime (now : Time) (seed : Position) (s : State) : (start now seed s).lastFrameTime = s.lastFrameTime := rfl
@[simp] theorem start_lastSampleTime (now : Time) (seed : Position) (s : State) : (start now seed s).lastSampleTime = now := rfl
@[simp] theorem start_position (now : Time) (seed : Position) (s : State) : (start now seed s).position = seed := rfl
@[simp] theorem start_cfg (now : Time) (seed : Position) (s : State) : (start now seed s).cfg = s.cfg := rfl
@[simp] theorem start_dutyOut (now : Time) (seed : Position) (s : State) : (start now seed s).dutyOut = s.dutyOut := rfl
@[simp] theorem start_dirOut (now : Time) (seed : Position) (s : State) : (start now seed s).dirOut = s.dirOut := rfl
@[simp] theorem start_out (now : Time) (seed : Position) (s : State) : (start now seed s).out = s.out := rfl
@[simp] theorem start_fb (now : Time) (seed : Position) (s : State) : (start now seed s).fb = s.fb := rfl
@[simp] theorem start_resetIn (now : Time) (seed : Position) (s : State) : (start now seed s).resetIn = s.resetIn := rfl
@[simp] theorem start_cfgIn (now : Time) (seed : Position) (s : State) : (start now seed s).cfgIn = s.cfgIn := rfl
@[simp] theorem start_cmdValid (now : Time) (seed : Position) (s : State) : (start now seed s).cmdValid = s.cmdValid := rfl
@[simp] theorem start_cw (now : Time) (seed : Position) (s : State) : (start now seed s).cw = s.cw := rfl
@[simp] theorem start_now (now : Time) (seed : Position) (s : State) : (start now seed s).now = s.now := rfl
@[simp] theorem start_seed (now : Time) (seed : Position) (s : State) : (start now seed s).seed = s.seed := rfl
@[simp] theorem start_host (now : Time) (seed : Position) (s : State) : (start now seed s).host = s.host := rfl

/-! ## STOP (40_debounce R55) -/

@[simp] theorem stop_running (s : State) : (stop s).running = false := rfl
@[simp] theorem stop_currentDuty (s : State) : (stop s).currentDuty = 0 := rfl
@[simp] theorem stop_level (s : State) : (stop s).level = 0 := rfl
@[simp] theorem stop_zeroStreak (s : State) : (stop s).zeroStreak = s.zeroStreak := rfl
@[simp] theorem stop_lastFrameTime (s : State) : (stop s).lastFrameTime = s.lastFrameTime := rfl
@[simp] theorem stop_lastSampleTime (s : State) : (stop s).lastSampleTime = s.lastSampleTime := rfl
@[simp] theorem stop_position (s : State) : (stop s).position = s.position := rfl
@[simp] theorem stop_cfg (s : State) : (stop s).cfg = s.cfg := rfl
@[simp] theorem stop_dutyOut (s : State) : (stop s).dutyOut = 0 := rfl
@[simp] theorem stop_dirOut (s : State) : (stop s).dirOut = s.dirOut := rfl
@[simp] theorem stop_out (s : State) : (stop s).out = s.out ++ [.duty 0] := rfl
@[simp] theorem stop_fb (s : State) : (stop s).fb = s.fb := rfl
@[simp] theorem stop_resetIn (s : State) : (stop s).resetIn = s.resetIn := rfl
@[simp] theorem stop_cfgIn (s : State) : (stop s).cfgIn = s.cfgIn := rfl
@[simp] theorem stop_cmdValid (s : State) : (stop s).cmdValid = s.cmdValid := rfl
@[simp] theorem stop_cw (s : State) : (stop s).cw = s.cw := rfl
@[simp] theorem stop_now (s : State) : (stop s).now = s.now := rfl
@[simp] theorem stop_seed (s : State) : (stop s).seed = s.seed := rfl
@[simp] theorem stop_host (s : State) : (stop s).host = s.host := rfl

/-! ## RESET on the registers (70_reset R100) -/

@[simp] theorem resetRegisters_running (s : State) : (resetRegisters s).running = false := rfl
@[simp] theorem resetRegisters_currentDuty (s : State) : (resetRegisters s).currentDuty = 0 := rfl
@[simp] theorem resetRegisters_level (s : State) : (resetRegisters s).level = 0 := rfl
@[simp] theorem resetRegisters_zeroStreak (s : State) : (resetRegisters s).zeroStreak = 0 := rfl
@[simp] theorem resetRegisters_lastFrameTime (s : State) : (resetRegisters s).lastFrameTime = 0 := rfl
@[simp] theorem resetRegisters_lastSampleTime (s : State) : (resetRegisters s).lastSampleTime = 0 := rfl
@[simp] theorem resetRegisters_position (s : State) : (resetRegisters s).position = 0 := rfl
@[simp] theorem resetRegisters_cfg (s : State) : (resetRegisters s).cfg = s.cfg := rfl
@[simp] theorem resetRegisters_dutyOut (s : State) : (resetRegisters s).dutyOut = 0 := rfl
@[simp] theorem resetRegisters_dirOut (s : State) : (resetRegisters s).dirOut = 0 := rfl
@[simp] theorem resetRegisters_out (s : State) : (resetRegisters s).out = [] := rfl
@[simp] theorem resetRegisters_fb (s : State) : (resetRegisters s).fb = s.fb := rfl
@[simp] theorem resetRegisters_resetIn (s : State) : (resetRegisters s).resetIn = s.resetIn := rfl
@[simp] theorem resetRegisters_cfgIn (s : State) : (resetRegisters s).cfgIn = s.cfgIn := rfl
@[simp] theorem resetRegisters_cmdValid (s : State) : (resetRegisters s).cmdValid = s.cmdValid := rfl
@[simp] theorem resetRegisters_cw (s : State) : (resetRegisters s).cw = s.cw := rfl
@[simp] theorem resetRegisters_now (s : State) : (resetRegisters s).now = s.now := rfl
@[simp] theorem resetRegisters_seed (s : State) : (resetRegisters s).seed = s.seed := rfl
@[simp] theorem resetRegisters_host (s : State) : (resetRegisters s).host = s.host := rfl

/-! ## Taking the offered command (30_encoding R40) -/

@[simp] theorem taken_running (s : State) : (State.taken s).running = s.running := rfl
@[simp] theorem taken_currentDuty (s : State) : (State.taken s).currentDuty = s.currentDuty := rfl
@[simp] theorem taken_level (s : State) : (State.taken s).level = s.level := rfl
@[simp] theorem taken_zeroStreak (s : State) : (State.taken s).zeroStreak = s.zeroStreak := rfl
@[simp] theorem taken_lastFrameTime (s : State) : (State.taken s).lastFrameTime = s.lastFrameTime := rfl
@[simp] theorem taken_lastSampleTime (s : State) : (State.taken s).lastSampleTime = s.lastSampleTime := rfl
@[simp] theorem taken_position (s : State) : (State.taken s).position = s.position := rfl
@[simp] theorem taken_cfg (s : State) : (State.taken s).cfg = s.cfg := rfl
@[simp] theorem taken_dutyOut (s : State) : (State.taken s).dutyOut = s.dutyOut := rfl
@[simp] theorem taken_dirOut (s : State) : (State.taken s).dirOut = s.dirOut := rfl
@[simp] theorem taken_out (s : State) : (State.taken s).out = s.out := rfl
@[simp] theorem taken_fb (s : State) : (State.taken s).fb = s.fb := rfl
@[simp] theorem taken_resetIn (s : State) : (State.taken s).resetIn = s.resetIn := rfl
@[simp] theorem taken_cfgIn (s : State) : (State.taken s).cfgIn = s.cfgIn := rfl
@[simp] theorem taken_cmdValid (s : State) : (State.taken s).cmdValid = false := rfl
@[simp] theorem taken_cw (s : State) : (State.taken s).cw = s.cw := rfl
@[simp] theorem taken_now (s : State) : (State.taken s).now = s.now := rfl
@[simp] theorem taken_seed (s : State) : (State.taken s).seed = s.seed := rfl
@[simp] theorem taken_host (s : State) : (State.taken s).host = s.host := rfl

/-! ## The sampler's advance (42_sampler R66, R67) -/

@[simp] theorem advance_running (now : Time) (s : State) : (advance now s).running = s.running := rfl
@[simp] theorem advance_currentDuty (now : Time) (s : State) : (advance now s).currentDuty = s.currentDuty := rfl
@[simp] theorem advance_level (now : Time) (s : State) : (advance now s).level = s.level := rfl
@[simp] theorem advance_zeroStreak (now : Time) (s : State) : (advance now s).zeroStreak = s.zeroStreak := rfl
@[simp] theorem advance_lastFrameTime (now : Time) (s : State) : (advance now s).lastFrameTime = s.lastFrameTime := rfl
@[simp] theorem advance_lastSampleTime (now : Time) (s : State) : (advance now s).lastSampleTime = now := rfl
@[simp] theorem advance_position (now : Time) (s : State) : (advance now s).position = s.position + s.cfg.noiseStep := rfl
@[simp] theorem advance_cfg (now : Time) (s : State) : (advance now s).cfg = s.cfg := rfl
@[simp] theorem advance_dutyOut (now : Time) (s : State) : (advance now s).dutyOut = s.dutyOut := rfl
@[simp] theorem advance_dirOut (now : Time) (s : State) : (advance now s).dirOut = s.dirOut := rfl
@[simp] theorem advance_out (now : Time) (s : State) : (advance now s).out = s.out := rfl
@[simp] theorem advance_fb (now : Time) (s : State) : (advance now s).fb = s.fb := rfl
@[simp] theorem advance_resetIn (now : Time) (s : State) : (advance now s).resetIn = s.resetIn := rfl
@[simp] theorem advance_cfgIn (now : Time) (s : State) : (advance now s).cfgIn = s.cfgIn := rfl
@[simp] theorem advance_cmdValid (now : Time) (s : State) : (advance now s).cmdValid = s.cmdValid := rfl
@[simp] theorem advance_cw (now : Time) (s : State) : (advance now s).cw = s.cw := rfl
@[simp] theorem advance_now (now : Time) (s : State) : (advance now s).now = s.now := rfl
@[simp] theorem advance_seed (now : Time) (s : State) : (advance now s).seed = s.seed := rfl
@[simp] theorem advance_host (now : Time) (s : State) : (advance now s).host = s.host := rfl

/-! ## The sampler's output (42_sampler R74, R75) -/

@[simp] theorem emit_running (d : Byte) (s : State) : (emit d s).running = s.running := rfl
@[simp] theorem emit_currentDuty (d : Byte) (s : State) : (emit d s).currentDuty = d := rfl
@[simp] theorem emit_level (d : Byte) (s : State) : (emit d s).level = s.level := rfl
@[simp] theorem emit_zeroStreak (d : Byte) (s : State) : (emit d s).zeroStreak = s.zeroStreak := rfl
@[simp] theorem emit_lastFrameTime (d : Byte) (s : State) : (emit d s).lastFrameTime = s.lastFrameTime := rfl
@[simp] theorem emit_lastSampleTime (d : Byte) (s : State) : (emit d s).lastSampleTime = s.lastSampleTime := rfl
@[simp] theorem emit_position (d : Byte) (s : State) : (emit d s).position = s.position := rfl
@[simp] theorem emit_cfg (d : Byte) (s : State) : (emit d s).cfg = s.cfg := rfl
@[simp] theorem emit_dutyOut (d : Byte) (s : State) : (emit d s).dutyOut = d := rfl
@[simp] theorem emit_dirOut (d : Byte) (s : State) : (emit d s).dirOut = s.cfg.dirLevel := rfl
@[simp] theorem emit_out (d : Byte) (s : State) :
    (emit d s).out = s.out ++ [.duty d, .dir s.cfg.dirLevel] := by simp [emit]
@[simp] theorem emit_fb (d : Byte) (s : State) : (emit d s).fb = s.fb := rfl
@[simp] theorem emit_resetIn (d : Byte) (s : State) : (emit d s).resetIn = s.resetIn := rfl
@[simp] theorem emit_cfgIn (d : Byte) (s : State) : (emit d s).cfgIn = s.cfgIn := rfl
@[simp] theorem emit_cmdValid (d : Byte) (s : State) : (emit d s).cmdValid = s.cmdValid := rfl
@[simp] theorem emit_cw (d : Byte) (s : State) : (emit d s).cw = s.cw := rfl
@[simp] theorem emit_now (d : Byte) (s : State) : (emit d s).now = s.now := rfl
@[simp] theorem emit_seed (d : Byte) (s : State) : (emit d s).seed = s.seed := rfl
@[simp] theorem emit_host (d : Byte) (s : State) : (emit d s).host = s.host := rfl

end Sys2Proof.Machine
end

