-- ==== Sys2Proof/Laws/Ops.lean ====
section
/-!
SUPPORT. One lemma for each shared operation that says everything it can do: the primitives of
00_scope R7, the two paths of the channel step, the two phases of TICK, the host's moves, and what
exec and step do when they answer a next state.
-/

namespace Sys2Proof.Machine

/-! ## The primitives -/

/-- The modular difference as a number. -/
theorem tdiff_toNat (now before : Time) : (tdiff now before).toNat = elapsed now before := by
  have h1 : now.toNat < 2 ^ 32 := now.isLt
  have h2 : before.toNat < 2 ^ 32 := before.isLt
  unfold tdiff elapsed
  rw [BitVec.toNat_sub]
  simp only [timeWidth] at *
  omega

/-- Rounding keeps a lower bound of the quotient. -/
theorem le_rhu {a b lo : Nat} (hb : 0 < b) (h : lo * b ≤ a) : lo ≤ rhu a b := by
  unfold rhu
  rw [Nat.le_div_iff_mul_le (by omega)]
  have : lo * (2 * b) = 2 * (lo * b) := by ring
  omega

/-- Rounding keeps an upper bound of the quotient. -/
theorem rhu_le {a b hi : Nat} (hb : 0 < b) (h : a ≤ hi * b) : rhu a b ≤ hi := by
  unfold rhu
  have h1 : 2 * a + b < (hi + 1) * (2 * b) := by
    have : (hi + 1) * (2 * b) = 2 * (hi * b) + 2 * b := by ring
    omega
  have := (Nat.div_lt_iff_lt_mul (by omega : 0 < 2 * b)).2 h1
  omega

/-! ## The configuration -/

/-- What a legal configuration means, register by register (10_state R18). -/
theorem legal_iff (c : ConfigRegs) : c.legal = true ↔
    1 ≤ c.channel.toNat ∧ c.channel.toNat ≤ 512 ∧ 1 ≤ c.threshold.toNat ∧
      1 ≤ c.alphaNum.toNat ∧ c.alphaNum.toNat < c.alphaDen.toNat ∧ 2 ≤ c.alphaDen.toNat := by
  simp [ConfigRegs.legal, and_assoc]

/-- What passing the filter means (40_debounce R51). -/
theorem accepts_iff (c : ConfigRegs) (univ length : Half) :
    accepts c univ length = true ↔ univ = c.univ ∧ c.channel.toNat ≤ length.toNat := by
  simp [accepts]

/-! ## The channel step -/

/-- Everything the zero path does (40_debounce R52). -/
theorem zeroFrame_cases (s : State) :
    (s.zeroStreak.toNat + 1 < s.cfg.threshold.toNat ∧
      zeroFrame s = { s with zeroStreak := s.zeroStreak + 1 }) ∨
    (s.cfg.threshold.toNat ≤ s.zeroStreak.toNat + 1 ∧ s.running = true ∧
      zeroFrame s = { stop s with zeroStreak := 0 }) ∨
    (s.cfg.threshold.toNat ≤ s.zeroStreak.toNat + 1 ∧ s.running = false ∧
      zeroFrame s = { s with zeroStreak := 0 }) := by
  unfold zeroFrame thresholdReached
  by_cases h : s.cfg.threshold.toNat ≤ s.zeroStreak.toNat + 1
  · have h' : ¬ s.zeroStreak.toNat + 1 < s.cfg.threshold.toNat := by omega
    cases hr : s.running <;> simp [h, h', hr]
  · simp only [h]
    left
    exact ⟨by omega, by simp⟩

/-- Everything the nonzero path does (40_debounce R53). -/
theorem nonzeroFrame_cases (v : Byte) (now : Time) (seed : Position) (s : State) :
    (s.running = true ∧ nonzeroFrame v now seed s = { s with zeroStreak := 0, level := v }) ∨
    (s.running = false ∧
      nonzeroFrame v now seed s = start now seed { s with zeroStreak := 0, level := v }) := by
  unfold nonzeroFrame
  cases s.running <;> simp

/-! ## The phases of TICK -/

/-- Everything the watchdog does (41_watchdog R60). -/
theorem watchdog_cases (now : Time) (s : State) :
    (watchdogDue now s = true ∧ watchdog now s = { stop s with zeroStreak := 0 }) ∨
    (watchdogDue now s = false ∧ watchdog now s = s) := by
  unfold watchdog
  cases watchdogDue now s <;> simp

/-- Everything the sampler does, for any noise source (42_sampler R65). -/
theorem sampleWith_cases (noise : Position → Byte) (now : Time) (s : State) :
    (sampleDue now s = true ∧ sampleWith noise now s =
      let d := nextDuty s.cfg s.level (noise (s.position + s.cfg.noiseStep)) s.currentDuty
      { s with
        lastSampleTime := now
        position := s.position + s.cfg.noiseStep
        currentDuty := d
        dutyOut := d
        dirOut := s.cfg.dirLevel
        out := s.out ++ [.duty d, .dir s.cfg.dirLevel] }) ∨
    (sampleDue now s = false ∧ sampleWith noise now s = s) := by
  unfold sampleWith
  cases sampleDue now s <;> simp [advance, emit, sinkDir, sinkDuty, State.noisePos]

/-- The watchdog's condition in numbers (41_watchdog R60). -/
theorem watchdogDue_iff (now : Time) (s : State) : watchdogDue now s = true ↔
    s.running = true ∧ s.cfg.timeout.toNat ≤ elapsed now s.lastFrameTime := by
  simp [watchdogDue, BitVec.le_def, tdiff_toNat]

/-- The sampler's condition in numbers (42_sampler R66). -/
theorem sampleDue_iff (now : Time) (s : State) : sampleDue now s = true ↔
    s.running = true ∧ s.cfg.samplePeriod.toNat ≤ elapsed now s.lastSampleTime := by
  simp [sampleDue, BitVec.le_def, tdiff_toNat]

/-! ## exec and step -/

/-- When a command answers a next state, and which (60_exceptions R90). -/
theorem underLegalConfig_next {s after t : State} :
    underLegalConfig s after = .next t ↔ s.cfg.legal = true ∧ t = after := by
  unfold underLegalConfig
  split
  · next h => simp [h, eq_comm]
  · next h => simp [h]

/-- FRAME as one equation under a legal configuration. -/
theorem exec_frame {s : State} (h : s.cfg.legal = true) (univ length : Half) :
    exec (.frame univ length) s = .next
      (if accepts s.cfg univ length then channelStep (channelByte s) s.now s.seed s else s) := by
  simp [exec, execFrame, underLegalConfig, h]

/-- TICK as one equation under a legal configuration. -/
theorem exec_tick {s : State} (h : s.cfg.legal = true) :
    exec .tick s = .next (sample s.now (watchdog s.now s)) := by
  simp [exec, execTick, underLegalConfig, h]

/-- Everything a FRAME that answers a next state can have done: dropped (40_debounce R51), counted a
zero, stopped, or cleared the count of a stopped block (R52), set the level, or started (R53). -/
theorem exec_frame_cases {univ length : Half} {s t : State}
    (h : exec (.frame univ length) s = .next t) : s.cfg.legal = true ∧
    ((accepts s.cfg univ length = false ∧ t = s) ∨
      (accepts s.cfg univ length = true ∧ channelByte s = 0 ∧
        s.zeroStreak.toNat + 1 < s.cfg.threshold.toNat ∧
        t = { s with lastFrameTime := s.now, zeroStreak := s.zeroStreak + 1 }) ∨
      (accepts s.cfg univ length = true ∧ channelByte s = 0 ∧
        s.cfg.threshold.toNat ≤ s.zeroStreak.toNat + 1 ∧ s.running = true ∧
        t = { stop s with lastFrameTime := s.now, zeroStreak := 0 }) ∨
      (accepts s.cfg univ length = true ∧ channelByte s = 0 ∧
        s.cfg.threshold.toNat ≤ s.zeroStreak.toNat + 1 ∧ s.running = false ∧
        t = { s with lastFrameTime := s.now, zeroStreak := 0 }) ∨
      (accepts s.cfg univ length = true ∧ channelByte s ≠ 0 ∧ s.running = true ∧
        t = { s with lastFrameTime := s.now, zeroStreak := 0, level := channelByte s }) ∨
      (accepts s.cfg univ length = true ∧ channelByte s ≠ 0 ∧ s.running = false ∧
        t = start s.now s.seed
          { s with lastFrameTime := s.now, zeroStreak := 0, level := channelByte s })) := by
  obtain ⟨hl, rfl⟩ := underLegalConfig_next.1 h
  refine ⟨hl, ?_⟩
  cases ha : accepts s.cfg univ length
  · simp
  · by_cases hv : channelByte s = 0
    · rcases zeroFrame_cases { s with lastFrameTime := s.now } with ⟨a, b⟩ | ⟨a, b, c⟩ | ⟨a, b, c⟩
      · exact .inr (.inl ⟨rfl, hv, a, by simp only [channelStep, if_pos hv, if_true]; exact b⟩)
      · exact .inr (.inr (.inl ⟨rfl, hv, a, b, by simp only [channelStep, if_pos hv, if_true]; exact c⟩))
      · exact .inr (.inr (.inr (.inl ⟨rfl, hv, a, b, by simp only [channelStep, if_pos hv, if_true]; exact c⟩)))
    · rcases nonzeroFrame_cases (channelByte s) s.now s.seed { s with lastFrameTime := s.now } with
        ⟨a, b⟩ | ⟨a, b⟩
      · exact .inr (.inr (.inr (.inr (.inl ⟨rfl, hv, a, by simp only [channelStep, if_neg hv, if_true]; exact b⟩))))
      · exact .inr (.inr (.inr (.inr (.inr ⟨rfl, hv, a, by simp only [channelStep, if_neg hv, if_true]; exact b⟩))))

/-- Everything a TICK that answers a next state can have done: the watchdog's stop (41_watchdog R60),
nothing, or one sample (42_sampler R65). -/
theorem exec_tick_cases {s t : State} (h : exec .tick s = .next t) : s.cfg.legal = true ∧
    ((watchdogDue s.now s = true ∧ t = { stop s with zeroStreak := 0 }) ∨
      (watchdogDue s.now s = false ∧ sampleDue s.now s = false ∧ t = s) ∨
      (watchdogDue s.now s = false ∧ sampleDue s.now s = true ∧ t =
        let d := nextDuty s.cfg s.level (Config.noise (s.position + s.cfg.noiseStep)) s.currentDuty
        { s with
          lastSampleTime := s.now
          position := s.position + s.cfg.noiseStep
          currentDuty := d
          dutyOut := d
          dirOut := s.cfg.dirLevel
          out := s.out ++ [.duty d, .dir s.cfg.dirLevel] })) := by
  obtain ⟨hl, rfl⟩ := underLegalConfig_next.1 h
  refine ⟨hl, ?_⟩
  rcases watchdog_cases s.now s with ⟨a, b⟩ | ⟨a, b⟩ <;> rw [b]
  · rcases sampleWith_cases Config.noise s.now { stop s with zeroStreak := 0 } with ⟨c, _⟩ | ⟨_, d⟩
    · simp [sampleDue] at c
    · exact .inl ⟨a, d⟩
  · rcases sampleWith_cases Config.noise s.now s with ⟨c, d⟩ | ⟨c, d⟩
    · exact .inr (.inr ⟨a, c, d⟩)
    · exact .inr (.inl ⟨a, c, d⟩)

/-- What a move of the host does when it answers a next state. -/
theorem hostMove_next {m : HostMove} {s t : State} (h : hostMove m s = .next t) :
    (∃ a d, m = .writeFb a d ∧ t = { s with fb := Memory.write s.fb a.toNat d }) ∨
    (∃ cw now seed, m = .offer cw now seed ∧ s.resetIn = false ∧ s.cmdValid = false ∧
      t = { s with cmdValid := true, cw := cw, now := now, seed := seed.getD s.seed }) ∨
    (∃ c, m = .driveConfig c ∧ t = { s with cfgIn := c }) ∨
    (m = .assertReset ∧ t = resetRegisters { s with resetIn := true }) ∨
    (m = .releaseReset ∧ s.resetIn = true ∧ s.cfgIn.legal = true ∧
      t = resetRegisters { s with resetIn := false, cfg := s.cfgIn }) ∨
    (m = .releaseReset ∧ s.resetIn = false ∧ t = s) := by
  cases m with
  | writeFb a d => simp_all [hostMove]
  | offer cw now seed =>
    unfold hostMove State.takesOffer State.cmdReady at h
    cases hr : s.resetIn <;> cases hv : s.cmdValid <;> simp_all
  | driveConfig c => simp_all [hostMove]
  | assertReset => simp_all [hostMove]
  | releaseReset =>
    unfold hostMove at h
    cases hr : s.resetIn <;> cases hc : s.cfgIn.legal <;> simp_all

/-- What the host's turn does when it answers a next state. -/
theorem hostTurn_next {s t : State} (h : hostTurn s = .next t) :
    (s.host = [] ∧ t = s) ∨
    (∃ m rest, s.host = m :: rest ∧ hostMove m { s with host := rest } = .next t) := by
  unfold hostTurn at h
  split at h
  · next he => simp_all
  · next m rest he => exact .inr ⟨m, rest, he, h⟩

/-- Everything a step that answers a next state can have done. -/
theorem step_next {s t : State} (h : step s = .next t) :
    (∃ i, s.transfers = true ∧ decode s.cw = .ok i ∧ exec i s.taken = .next t) ∨
    (s.transfers = false ∧ hostTurn s = .next t) := by
  unfold step State.offered at h
  split at h
  · next ht =>
    split at h
    · next i hi => exact .inl ⟨i, ht, hi, h⟩
    · simp at h
  · next ht => exact .inr ⟨by simpa using ht, h⟩

/-! ## The output trace -/

@[simp] theorem lastDuty_append_duty (out : List SinkEvent) (d : Byte) :
    lastDuty (out ++ [.duty d]) = some d := by simp [lastDuty]

@[simp] theorem lastDuty_append_dir (out : List SinkEvent) (l : BitVec 1) :
    lastDuty (out ++ [.dir l]) = lastDuty out := by simp [lastDuty]

@[simp] theorem lastDir_append_duty (out : List SinkEvent) (d : Byte) :
    lastDir (out ++ [.duty d]) = lastDir out := by simp [lastDir]

@[simp] theorem lastDir_append_dir (out : List SinkEvent) (l : BitVec 1) :
    lastDir (out ++ [.dir l]) = some l := by simp [lastDir]

@[simp] theorem lastDuty_append_sample (out : List SinkEvent) (d : Byte) (l : BitVec 1) :
    lastDuty (out ++ [.duty d, .dir l]) = some d := by simp [lastDuty]

@[simp] theorem lastDir_append_sample (out : List SinkEvent) (d : Byte) (l : BitVec 1) :
    lastDir (out ++ [.duty d, .dir l]) = some l := by simp [lastDir]

end Sys2Proof.Machine
end

