-- ==== Sys2Proof/Laws/PerInstr.lean ====
section
/-!
SUPPORT. What holds of every command as a piece of notation, one lemma per constructor.
-/

namespace Sys2Proof.Laws

/-- The word of a well-formed command lies in the opcode map, in the row of its own mnemonic
(30_encoding R45). -/
def OwnRow.Statement (i : Instr) : Prop :=
  i.wellFormed = true ∧ CommandWord.wellFormed (encode i) = true ∧
    match i with
    | .frame _ _ => OpcodeRow.frame.hits (encode i) = true
    | .tick => OpcodeRow.tick.hits (encode i) = true

theorem OwnRow.frame (univ length : Half) : OwnRow.Statement (.frame univ length) := by
  have h : OpcodeRow.frame.hits (encode (.frame univ length)) = true := by
    have e : encode (.frame univ length) = 0x01#8 ++ (univ ++ length) := by
      exact (BitVec.append_assoc (x₁ := 0x01#8) (x₂ := univ) (x₃ := length)).trans rfl
    have m : (0xFF00000000#40 : CommandWord) = 0xFF#8 ++ 0#32 := by decide
    have p : (0x0100000000#40 : CommandWord) = 0x01#8 ++ 0#32 := by decide
    have z : (univ ++ length) &&& 0#32 = 0#32 := by simp
    simp only [OpcodeRow.hits, OpcodeRow.frame, beq_iff_eq]
    rw [e]
    refine (congrArg (_ &&& ·) m).trans (Eq.trans ?_ p.symm)
    rw [BitVec.and_append, z]
    rfl
  exact ⟨rfl, by simp [CommandWord.wellFormed, opcodeRows, h], h⟩

theorem OwnRow.tick : OwnRow.Statement .tick := by
  refine ⟨rfl, ?_, ?_⟩ <;> decide

end Sys2Proof.Laws
end

