-- ==== Sys2Proof/Tests/Slice0.lean ====
section
/-!
SUPPORT. The model's own tests: expected results from spec/95_test_vectors.md and the encodings of
30_encoding.md, and for each statement with hypotheses a witness that meets them.
-/

namespace Sys2Proof.Tests

open Sys2Proof.Machine

/-! ## Helpers -/

/-- The configuration CFG_EX, the channel byte `v` in FB[1], the levels `now` and `seed` on the ports,
and the registers in the order of 95_test_vectors: run, duty, level, zs, tf, ts, pos. -/
def st (v : Byte) (now : Time) (seed : Position) (run : Bool) (duty level zs : Byte) (tf ts : Time)
    (pos : Position) : State :=
  { State.reset with
    running := run, currentDuty := duty, level := level, zeroStreak := zs, lastFrameTime := tf,
    lastSampleTime := ts, position := pos, dutyOut := duty, fb := [(1, v)], now := now, seed := seed }

/-- A register state in the vectors' order, with the trace. -/
structure Regs where
  run : Bool
  duty : Byte
  level : Byte
  zs : Byte
  tf : Time
  ts : Time
  pos : Position
  out : List SinkEvent
  deriving DecidableEq, Repr

/-- The register state of a state. -/
def regs (s : State) : Regs :=
  ⟨s.running, s.currentDuty, s.level, s.zeroStreak, s.lastFrameTime, s.lastSampleTime, s.position,
    s.out⟩

/-- The next state of an outcome, if it is one. -/
def after : Host.Outcome State Fault Refusal → Option State
  | .next t => some t
  | _ => none

/-! ## Decoding, from the spec's encodings -/

/-- FRAME, universe 3, length 2, written out field by field (30_encoding R42, R45). -/
theorem test_decode_frame_bits :
    decode 0b0000000100000000000000110000000000000010#40 = .ok (.frame 3 2) := by decide

/-- TICK, written out field by field (30_encoding R42, R45). -/
theorem test_decode_tick_bits :
    decode 0b0000001000000000000000000000000000000000#40 = .ok .tick := by decide

/-- 95_test_vectors L2-1: the words that decode. -/
theorem test_decode_words :
    decode 0x0100000200#40 = .ok (.frame 0 512) ∧
    decode 0x01FFFFFFFF#40 = .ok (.frame 65535 65535) ∧
    decode 0x0100040000#40 = .ok (.frame 4 0) := by decide

/-- 95_test_vectors L2-1: the reserved words. -/
theorem test_decode_reserved :
    decode 0x0200000001#40 = .error (.tickOperandNotZero 1) ∧
    decode 0x0000000000#40 = .error (.reservedOp 0) ∧
    decode 0x0300000000#40 = .error (.reservedOp 3) ∧
    decode 0xFF00030002#40 = .error (.reservedOp 255) := by decide

/-! ## Well-formedness: every check refuses something ill formed -/

/-- Words outside both rows of the opcode map, and words inside (30_encoding R45, R46). -/
theorem test_word_well_formed :
    CommandWord.wellFormed 0x0000000000 = false ∧ CommandWord.wellFormed 0x0300000000 = false ∧
    CommandWord.wellFormed 0x0200000001 = false ∧ CommandWord.wellFormed 0x0100030002 = true ∧
    CommandWord.wellFormed 0x0200000000 = true := by decide

/-- Each reserved value of a configuration register makes the configuration illegal (U3 to U5). -/
theorem test_config_ill_formed :
    ConfigRegs.legal { ConfigRegs.cfgEx with channel := 0 } = false ∧
    ConfigRegs.legal { ConfigRegs.cfgEx with channel := 513 } = false ∧
    ConfigRegs.legal { ConfigRegs.cfgEx with channel := 512 } = true ∧
    ConfigRegs.legal { ConfigRegs.cfgEx with threshold := 0 } = false ∧
    ConfigRegs.legal { ConfigRegs.cfgEx with alphaNum := 0 } = false ∧
    ConfigRegs.legal { ConfigRegs.cfgEx with alphaNum := 100 } = false ∧
    ConfigRegs.legal { ConfigRegs.cfgEx with alphaNum := 1, alphaDen := 1 } = false ∧
    ConfigRegs.legal { ConfigRegs.cfgEx with alphaNum := 1, alphaDen := 2 } = true := by decide

/-! ## FRAME -/

/-- 95_test_vectors L2-3, row 3: a nonzero frame starts the block. -/
theorem test_frame_starts :
    (after (exec (.frame 3 2) (st 9 7000 0xABCD false 0 0 3 10 0 0))).map regs =
      some ⟨true, 0, 9, 0, 7000, 7000, 0xABCD, []⟩ := by decide

/-- 95_test_vectors L2-3, row 5: the threshold-th zero frame stops it. -/
theorem test_frame_stops :
    (after (exec (.frame 3 2) (st 0 7000 0xABCD true 77 128 4 10 6990 500))).map regs =
      some ⟨false, 0, 0, 0, 7000, 6990, 500, [.duty 0]⟩ := by decide

/-! ## TICK -/

/-- 95_test_vectors L2-10, row 3: the watchdog fires, and the sample is suppressed. -/
theorem test_tick_watchdog :
    (after (exec .tick (st 0 6000 0 true 50 255 0 5000 5980 9))).map regs =
      some ⟨false, 0, 0, 0, 5000, 5980, 9, [.duty 0]⟩ := by decide

/-- 95_test_vectors L2-10, row 4: a sample, with the vectors' noise stub NoiseConst255. -/
theorem test_tick_sample :
    let s := st 0 6000 0 true 50 255 0 5500 5980 9
    let t := sampleWith (fun _ => 255) 6000 s
    watchdogDue 6000 s = false ∧ t.lastSampleTime = 6000 ∧ t.position = 25 ∧
    t.currentDuty = 100 ∧ lastDuty t.out = some 100 ∧ lastDir t.out = some 1 ∧
    t.out.length = 2 := by decide

/-- 95_test_vectors L2-7, L2-8, L2-9: the arithmetic of the sampler, ties and extreme factors too. -/
theorem test_sampler_arithmetic :
    effAmp 1 100 = 0 ∧ effAmp 2 100 = 1 ∧ effAmp 127 230 = 115 ∧ effAmp 255 255 = 255 ∧
    targetDuty 200 115 = 90 ∧ targetDuty 127 255 = 127 ∧
    smooth .cfgEx 0 255 = 184 ∧ smooth .cfgEx 100 101 = 101 ∧
    smooth { ConfigRegs.cfgEx with alphaNum := 1, alphaDen := 2 } 0 1 = 1 ∧
    smooth { ConfigRegs.cfgEx with alphaNum := 65534, alphaDen := 65535 } 255 0 = 255 := by decide

/-! ## The interface -/

/-- The bits of the table's two rows give their commands, and step runs them first after reset. -/
theorem test_table_words_run :
    decodeTableWord 40 0x0100000000 = some (.frame 0 0) ∧
    decodeTableWord 40 0x0200000000 = some .tick ∧
    after (step (State.reset.withFetchWord 40 0x0100000000)) =
      some { State.reset with cw := 0x0100000000 } ∧
    after (step (State.reset.withFetchWord 40 0x0200000000)) =
      some { State.reset with cw := 0x0200000000 } := by decide

/-- A TICK may come with a driven SEED, which it ignores: an iteration all the same (30_encoding R41,
43_tick_fsm R81). -/
theorem test_loop_profile_seed_with_tick :
    LoopProfile [.offer (encode (.frame 3 2)) 5 (some 1), .offer (encode .tick) 5 (some 7)] :=
  ⟨[⟨5, some (3, 2, some 1), some 7⟩], by decide, by decide⟩

/-! ## Witnesses for the statements' hypotheses -/

/-- A legal configuration, the one hypothesis of EveryCommandCompletes, SmoothingDoesNotOvershoot and
SampledDutyNeedsNoClamp. -/
theorem witness_legal : State.reset.cfg.legal = true ∧ ConfigRegs.cfgEx.legal = true := by decide

theorem witness_DecodeReadsBackEveryEncodedCommand :
    Instr.wellFormed (.frame 65535 0) = true ∧ Instr.wellFormed .tick = true := by decide

theorem witness_EncodeReadsBackEveryDecodedWord :
    decode 0x0100030002#40 = .ok (.frame 3 2) ∧ decode 0x0200000000#40 = .ok .tick := by decide

theorem witness_FrameFieldsAreBitSlices :
    decode 0x01FFFF0000#40 = .ok (.frame 65535 0) := by decide

/-- The three kinds of reserved word, at the ends of their ranges. -/
theorem witness_ReservedWordsAreRefused :
    let s := { State.reset with cmdValid := true, cw := 0x00FFFFFFFF }
    let t := { State.reset with cmdValid := true, cw := 0x0300000000 }
    let u := { State.reset with cmdValid := true, cw := 0x0200000001 }
    s.cmdValid = true ∧ s.resetIn = false ∧ s.cw.toNat / 2 ^ 32 = 0 ∧
    t.cmdValid = true ∧ t.resetIn = false ∧ 3 ≤ t.cw.toNat / 2 ^ 32 ∧
    u.cmdValid = true ∧ u.resetIn = false ∧ u.cw.toNat / 2 ^ 32 = 2 ∧
      u.cw.toNat % 2 ^ 32 ≠ 0 := by decide

theorem witness_StepRunsTheTransferredCommand :
    let s := State.reset.withFetchWord 40 0x0100030002
    s.cmdValid = true ∧ s.resetIn = false ∧ decode s.cw = .ok (.frame 3 2) := by decide

theorem witness_StepWithoutTransferIsTheHostsMove :
    (State.reset.cmdValid = false ∧ State.reset.host = []) ∧
    (let s := { State.reset with resetIn := true, cmdValid := true, host := [.releaseReset] }
     s.resetIn = true ∧ s.host = .releaseReset :: []) := by decide

theorem witness_IllegalConfigurationIsRefused :
    let c := { ConfigRegs.cfgEx with threshold := 0 }
    ({ State.reset with cfg := c } : State).cfg.legal = false ∧
    (let s := { State.reset with resetIn := true, host := [.releaseReset], cfgIn := c }
     s.resetIn = true ∧ s.host = .releaseReset :: [] ∧ s.cfgIn.legal = false) := by decide

/-- A frame just long enough, and one just too short (L2-2). -/
theorem witness_FrameFilterDropsOrProcesses :
    let s := st 9 0 0 false 0 0 0 0 0 0
    s.cfg.legal = true ∧ ((3 : Half) = s.cfg.univ ∧ s.cfg.channel.toNat ≤ (2 : Half).toNat) ∧
    ¬ ((3 : Half) = s.cfg.univ ∧ s.cfg.channel.toNat ≤ (1 : Half).toNat) ∧
    ¬ ((4 : Half) = s.cfg.univ ∧ s.cfg.channel.toNat ≤ (512 : Half).toNat) := by decide

/-- One below the threshold, at the threshold running and stopped (L2-3, rows 4, 5 and 2), and the
smallest nonzero byte (row 8). -/
theorem witness_ZeroFrameCountsOrStops :
    let s := st 0 7000 0 true 77 128 3 10 6990 500
    let t := st 0 7000 0 true 77 128 4 10 6990 500
    let u := st 0 7000 0 false 0 0 4 10 0 0
    let w := st 1 7000 0 true 77 128 0 10 6990 500
    (s.cfg.legal = true ∧ (3 : Half) = s.cfg.univ ∧ s.cfg.channel.toNat ≤ (2 : Half).toNat ∧
      Memory.read s.fb (s.cfg.channel.toNat - 1) = 0 ∧
      s.zeroStreak.toNat + 1 < s.cfg.threshold.toNat) ∧
    (t.cfg.legal = true ∧ (3 : Half) = t.cfg.univ ∧ t.cfg.channel.toNat ≤ (2 : Half).toNat ∧
      Memory.read t.fb (t.cfg.channel.toNat - 1) = 0 ∧
      t.cfg.threshold.toNat ≤ t.zeroStreak.toNat + 1 ∧ t.running = true) ∧
    (u.cfg.legal = true ∧ (3 : Half) = u.cfg.univ ∧ u.cfg.channel.toNat ≤ (2 : Half).toNat ∧
      Memory.read u.fb (u.cfg.channel.toNat - 1) = 0 ∧
      u.cfg.threshold.toNat ≤ u.zeroStreak.toNat + 1 ∧ u.running = false) ∧
    (w.cfg.legal = true ∧ (3 : Half) = w.cfg.univ ∧ w.cfg.channel.toNat ≤ (2 : Half).toNat ∧
      Memory.read w.fb (w.cfg.channel.toNat - 1) = 1 ∧ (1 : Byte) ≠ 0) := by decide

/-- The channel value 1 running, and the value 255 stopped (L2-3, rows 8 and 9). -/
theorem witness_NonzeroFrameSetsLevelOrStarts :
    let s := st 1 7000 0xABCD true 77 128 0 10 6990 500
    let t := st 255 7000 0xABCD false 0 0 0 10 6990 500
    (s.cfg.legal = true ∧ (3 : Half) = s.cfg.univ ∧ s.cfg.channel.toNat ≤ (2 : Half).toNat ∧
      Memory.read s.fb (s.cfg.channel.toNat - 1) = 1 ∧ (1 : Byte) ≠ 0 ∧ s.running = true) ∧
    (t.cfg.legal = true ∧ (3 : Half) = t.cfg.univ ∧ t.cfg.channel.toNat ≤ (2 : Half).toNat ∧
      Memory.read t.fb (t.cfg.channel.toNat - 1) = 255 ∧ (255 : Byte) ≠ 0 ∧
      t.running = false) := by decide

/-- A start changes the position and the sample clock, and a stop the duty and the trace. -/
theorem witness_FrameLeavesTheRestUnchanged :
    (∃ t, exec (.frame 3 2) (st 9 7000 0xABCD false 0 0 3 10 0 0) = .next t ∧
      t.position ≠ 0 ∧ t.lastSampleTime ≠ 0) ∧
    (∃ t, exec (.frame 3 2) (st 0 7000 0 true 77 128 4 10 6990 500) = .next t ∧
      t.currentDuty ≠ 77 ∧ t.dutyOut ≠ 77 ∧ t.out ≠ []) :=
  ⟨⟨_, exec_frame (by decide) 3 2, by decide, by decide⟩,
    ⟨_, exec_frame (by decide) 3 2, by decide, by decide, by decide⟩⟩

/-- Scenario A (L1-A): a running block with a zero count of 0, fed four and five zero frames. -/
theorem witness_ZeroRunStopsExactlyAtTheThreshold :
    let s := st 0 0 0 true 77 128 0 10 6990 500
    s.cfg.legal = true ∧ (3 : Half) = s.cfg.univ ∧ s.cfg.channel.toNat ≤ (2 : Half).toNat ∧
    Memory.read s.fb (s.cfg.channel.toNat - 1) = 0 ∧ s.running = true ∧ s.zeroStreak = 0 ∧
    (List.replicate 4 ((0, 0) : Time × Position)).length < s.cfg.threshold.toNat ∧
    (List.replicate 5 ((0, 0) : Time × Position)).length = s.cfg.threshold.toNat := by decide

/-- Two frame buffers that agree at the channel's address and differ elsewhere. -/
theorem witness_FrameReadsAtMostTheChannelByte :
    let s := st 9 7000 0 false 0 0 0 0 0 0
    ((3 : Half) = s.cfg.univ ∧ s.cfg.channel.toNat ≤ (2 : Half).toNat →
      Memory.read [(0, 5), (1, 9)] (s.cfg.channel.toNat - 1) =
        Memory.read s.fb (s.cfg.channel.toNat - 1)) ∧
    ∃ t, exec (.frame 3 2) s = .next t :=
  ⟨fun _ => by decide, _, exec_frame (by decide) 3 2⟩

/-- The elapsed time equal to the timeout, before and over a wrap of the clock (L2-4, rows 2, 6). -/
theorem witness_TickAtTheTimeoutStopsWithoutASample :
    let s := st 0 6000 0 true 50 255 0 5000 5980 9
    let t := st 0 0x2E8 0 true 50 255 0 0xFFFFFF00 0 9
    (s.cfg.legal = true ∧ s.running = true ∧
      s.cfg.timeout.toNat ≤ elapsed s.now s.lastFrameTime) ∧
    (t.cfg.legal = true ∧ t.running = true ∧
      t.cfg.timeout.toNat ≤ elapsed t.now t.lastFrameTime) := by decide

/-- Fires at the timeout, does not fire one unit before it, nor stopped (L2-4, rows 2, 1 and 4). -/
theorem witness_WatchdogFiresExactlyAtItsCondition :
    let s := st 0 0 0 true 50 255 0 5000 0 9
    let t := st 0 0 0 false 0 0 3 5000 0 9
    (s.running = true ∧ s.cfg.timeout.toNat ≤ elapsed 6000 s.lastFrameTime) ∧
    elapsed 5999 s.lastFrameTime < s.cfg.timeout.toNat ∧ t.running = false := by decide

/-- L2-4, row 8. -/
theorem witness_ClockOneBehindFiresTheWatchdog :
    let s := st 0 4999 0 true 50 255 0 5000 0 9
    s.cfg.legal = true ∧ s.running = true ∧ s.lastFrameTime = s.now + 1 := by decide

/-- The period just elapsed, not yet elapsed, and a stopped block (L2-5). -/
theorem witness_TickTakesTheSampleOfTheSixSteps :
    let s := st 0 1020 0 true 50 255 0 1000 1000 9
    let t := st 0 1019 0 true 50 255 0 1000 1000 9
    let u := st 0 5000 0 false 0 0 0 1000 1000 9
    (s.cfg.legal = true ∧ elapsed s.now s.lastFrameTime < s.cfg.timeout.toNat ∧
      s.running = true ∧ s.cfg.samplePeriod.toNat ≤ elapsed s.now s.lastSampleTime) ∧
    (t.cfg.legal = true ∧ elapsed t.now t.lastFrameTime < t.cfg.timeout.toNat ∧
      elapsed t.now t.lastSampleTime < t.cfg.samplePeriod.toNat) ∧
    (u.cfg.legal = true ∧ u.running = false) := by decide

theorem witness_TickOfAStoppedBlockDoesNothing :
    State.reset.cfg.legal = true ∧ State.reset.running = false := by decide

/-- A sample changes the position and the sample clock, a stop the level and the zero count, and a
stopped block stays as it is. -/
theorem witness_TickLeavesTheRestUnchanged :
    (∃ t, exec .tick (st 0 1020 0 true 50 255 0 1000 1000 9) = .next t ∧
      t.position ≠ 9 ∧ t.lastSampleTime ≠ 1000 ∧ t.running = true) ∧
    (∃ t, exec .tick (st 0 6000 0 true 50 255 3 5000 5980 9) = .next t ∧
      t.level ≠ 255 ∧ t.zeroStreak ≠ 3) ∧
    (∃ t, exec .tick State.reset = .next t ∧ State.reset.running = false) :=
  ⟨⟨_, exec_tick (by decide), by decide, by decide, by decide⟩,
    ⟨_, exec_tick (by decide), by decide, by decide⟩, ⟨_, exec_tick (by decide), by decide⟩⟩

theorem witness_TickIgnoresSeedAndFrameBuffer :
    ∃ t, exec .tick (st 0 1020 0 true 50 255 0 1000 1000 9) = .next t :=
  ⟨_, exec_tick (by decide)⟩

/-- Two noise sources that agree at the advanced position 25 and differ elsewhere. -/
theorem witness_SamplerAsksTheNoiseAtTheAdvancedPositionOnly :
    let s := st 0 0 0 true 50 255 0 1000 1000 9
    let p : Position → Byte := fun _ => 255
    let q : Position → Byte := fun x => if x = 25 then 255 else 0
    s.running = true ∧ s.cfg.samplePeriod.toNat ≤ elapsed 1020 s.lastSampleTime ∧
    p (s.position + s.cfg.noiseStep) = q (s.position + s.cfg.noiseStep) ∧ p 9 ≠ q 9 := by decide

theorem witness_TickDependsOnElapsedTimesOnly :
    ∃ t, exec .tick (st 0 6000 0 true 50 255 0 5000 5980 9) = .next t :=
  ⟨_, exec_tick (by decide)⟩

/-- The smallest divisor with a tie, which goes upward (42_sampler R70). -/
theorem witness_RoundingIsToNearestTiesUpward : 0 < 2 ∧ rhu 1 2 = 1 := by decide

/-- 28/100 and 7/25 are the same factor (10_state R25). -/
theorem witness_SmoothingDependsOnTheRatioOnly :
    let d := { ConfigRegs.cfgEx with alphaNum := 7, alphaDen := 25 }
    ConfigRegs.cfgEx.legal = true ∧ d.legal = true ∧
    ConfigRegs.cfgEx.alphaNum.toNat * d.alphaDen.toNat =
      d.alphaNum.toNat * ConfigRegs.cfgEx.alphaDen.toNat := by decide

/-- A frame that starts the block, and a sample period that is not 0. -/
theorem witness_FrameQuietsTheTickOfItsIteration :
    let s := st 128 1000 100 false 0 0 0 0 0 0
    (s.cfg.legal = true ∧ (3 : Half) = s.cfg.univ ∧ s.cfg.channel.toNat ≤ (2 : Half).toNat ∧
      s.cfg.timeout ≠ 0 ∧ s.running = false ∧ s.cfg.samplePeriod ≠ 0) ∧
    ∃ t, exec (.frame 3 2) s = .next t :=
  ⟨by decide, _, exec_frame (by decide) 3 2⟩

theorem witness_IterMovesKeepToTheLoopProfile :
    ([(0, 100, none), (5, 101, some 7), (0, 101, none)] :
      List (Byte × Nat × Option Position)).Pairwise (fun a b => a.2.1 ≤ b.2.1) := by decide

theorem witness_ValueIsOneProcessedFrame :
    let s := { State.reset with host := valueMoves State.reset.cfg 5 102 none ++ [HostMove.assertReset] }
    s.cfg.legal = true ∧ s.resetIn = false ∧ s.cmdValid = false ∧
    s.host = valueMoves s.cfg 5 102 none ++ [HostMove.assertReset] := by decide

/-- An asserted RESET with an offer waiting, its release with legal inputs, and a step that changes
the configuration. -/
theorem witness_ReleaseOfResetLatchesAndClears :
    let c := { ConfigRegs.cfgEx with threshold := 1 }
    let s := { State.reset with
      resetIn := true, cmdValid := true, cfgIn := c, host := [.releaseReset] }
    s.resetIn = true ∧ s.host = .releaseReset :: [] ∧ s.cfgIn.legal = true ∧
    (after (step s)).map (·.cfg) = some c ∧ c ≠ s.cfg := by decide

theorem witness_AssertedResetStopsWithoutAnEvent :
    let s := { st 0 0 0 true 50 255 0 0 0 0 with host := [.assertReset] }
    s.transfers = false ∧ s.host = .assertReset :: [] ∧ s.running = true := by decide

/-- A write changes one byte of the frame buffer, the last one; a command waits on no port. -/
theorem witness_OnlyHostWritesChangeTheFrameBuffer :
    let s := { State.reset with host := [.writeFb 511 7] }
    s.transfers = false ∧ s.host = .writeFb 511 7 :: [] ∧
    (after (step s)).map (·.fb) = some [(511, 7)] := by decide

theorem witness_DrivenInputsChangeNothingElse :
    let c := { ConfigRegs.cfgEx with threshold := 0 }
    let s := { State.reset with host := [.driveConfig c] }
    s.transfers = false ∧ s.host = .driveConfig c :: [] := by decide

/-- An offer to a free port, and an offer under RESET. -/
theorem witness_OffersNeedAReadyPort :
    let s := { State.reset with host := [.offer 0x0200000000 5 none] }
    let t := { s with resetIn := true }
    (s.transfers = false ∧ s.host = .offer 0x0200000000 5 none :: [] ∧ s.resetIn = false) ∧
    (t.transfers = false ∧ t.host = .offer 0x0200000000 5 none :: [] ∧ t.resetIn = true) := by
  decide

/-- A step that starts the block, and steps that stop it by a zero frame, a TICK and RESET. -/
theorem witness_OnlyTheseEventsStartOrStop :
    (after (step ((st 9 7000 0 false 0 0 0 10 0 0).withFetchWord 40 0x0100030002))).map
      (·.running) = some true ∧
    (after (step ((st 0 7000 0 true 77 128 4 10 0 0).withFetchWord 40 0x0100030002))).map
      (·.running) = some false ∧
    (after (step ((st 0 6000 0 true 50 255 0 5000 0 9).withFetchWord 40 0x0200000000))).map
      (·.running) = some false ∧
    (after (step { st 0 0 0 true 50 255 0 0 0 0 with host := [.assertReset] })).map
      (·.running) = some false := by decide

/-- A step that leaves the trace, one that adds the event of a stop, one that adds the two events of a
sample, and the assertion and the release of RESET, which empty it. -/
theorem witness_TraceGrowsByWholeGroups :
    let s := { st 0 6000 0 true 50 255 0 5000 6000 9 with out := [.duty 50], host := [.assertReset] }
    let t := { s with resetIn := true, host := [.releaseReset] }
    (after (step (s.withFetchWord 40 0x0100040002))).map (·.out) = some [.duty 50] ∧
    (after (step (s.withFetchWord 40 0x0200000000))).map (·.out) = some [.duty 50, .duty 0] ∧
    (after (step ({ s with now := 5990 }.withFetchWord 40 0x0200000000))).map (·.out.length) =
      some 3 ∧
    (after (step s)).map (·.out) = some [] ∧ (after (step t)).map (·.out) = some [] := by decide

theorem witness_CommandsOfAStoppedBlockMakeNoSinkCall :
    (∃ t, exec (.frame 3 2) (st 0 7000 0 false 0 0 4 10 0 0) = .next t) ∧
    (∃ t, exec .tick State.reset = .next t) ∧ State.reset.running = false :=
  ⟨⟨_, exec_frame (by decide) 3 2⟩, ⟨_, exec_tick (by decide)⟩, by decide⟩

/-- A running state that meets the invariants, and its next state: P1 after step 5, with the vectors'
values (95_test_vectors). -/
theorem witness_EveryStepKeepsTheInvariants :
    Inv { st 128 1030 100 true 15 128 0 1000 1020 116 with
      dirOut := 1, out := [.duty 15, .dir 1], cmdValid := true, cw := 0x0200000000 } ∧
    after (step { st 128 1030 100 true 15 128 0 1000 1020 116 with
      dirOut := 1, out := [.duty 15, .dir 1], cmdValid := true, cw := 0x0200000000 }) =
      some { st 128 1030 100 true 15 128 0 1000 1020 116 with
        dirOut := 1, out := [.duty 15, .dir 1], cw := 0x0200000000 } :=
  ⟨⟨by decide, by decide, by decide, by decide, by decide, by decide,
    fun l h => by simpa [lastDir] using h, by decide, by decide, by decide⟩, by decide⟩

theorem witness_EveryStepKeepsTheMemoryForm :
    Memory.wf [(0, 9), (1, 255)] ∧
    (after (step { State.reset with fb := [(0, 9), (1, 255)], host := [.writeFb 1 77] })).map
      (·.fb) = some [(0, 9), (1, 77)] := by decide

/-- Two stopped states that differ in both timestamps, the position and DIR_OUT. -/
theorem witness_UnwrittenRegistersAreNeverRead :
    SameToRules State.reset
      { State.reset with lastFrameTime := 1, lastSampleTime := 2, position := 3, dirOut := 1 } :=
  ⟨rfl, by decide, by decide⟩

end Sys2Proof.Tests
end

section
/-!
SUPPORT. Moving the clock: NOW and both stored times moved by one amount, modulo 2^TW, and the proof
that TICK commutes with it (00_scope R7, 60_exceptions R91).
-/

namespace Sys2Proof.Machine

/-- The state with NOW and both stored times moved by `k`, modulo 2^TW. -/
def State.shiftClock (k : Time) (s : State) : State :=
  { s with
    now := s.now + k
    lastFrameTime := s.lastFrameTime + k
    lastSampleTime := s.lastSampleTime + k }

/-- An elapsed time does not see where the clock starts (00_scope R7). -/
@[simp] theorem tdiff_add_add (a b k : Time) : tdiff (a + k) (b + k) = tdiff a b :=
  add_sub_add_right_eq_sub a b k

@[simp] theorem watchdogDue_shiftClock (k now : Time) (s : State) :
    watchdogDue (now + k) (s.shiftClock k) = watchdogDue now s := by
  simp [watchdogDue, State.shiftClock]

@[simp] theorem sampleDue_shiftClock (k now : Time) (s : State) :
    sampleDue (now + k) (s.shiftClock k) = sampleDue now s := by
  simp [sampleDue, State.shiftClock]

/-- The watchdog stores no time, so its stop is the same stop on the moved clock (41_watchdog R60). -/
theorem watchdog_shiftClock (k now : Time) (s : State) :
    watchdog (now + k) (s.shiftClock k) = (watchdog now s).shiftClock k := by
  unfold watchdog
  rw [watchdogDue_shiftClock]
  split <;> rfl

/-- The one time a sample stores is the moved `now`; it reads no time but the period's elapsed one
(42_sampler R66). -/
theorem sample_shiftClock (k now : Time) (s : State) :
    sample (now + k) (s.shiftClock k) = (sample now s).shiftClock k := by
  unfold sample sampleWith
  rw [sampleDue_shiftClock]
  split <;> rfl

/-- Settles O26: both phases of TICK commute with moving the clock, and the configuration does not
move. -/
theorem tickDependsOnElapsedTimesOnly : Obligations.TickDependsOnElapsedTimesOnly := by
  intro s t k h
  obtain ⟨hl, rfl⟩ := underLegalConfig_next.1 h
  calc exec .tick (s.shiftClock k)
      = .next (sample (s.now + k) (watchdog (s.now + k) (s.shiftClock k))) := exec_tick hl
    _ = .next ((sample s.now (watchdog s.now s)).shiftClock k) := by
        rw [watchdog_shiftClock, sample_shiftClock]

end Sys2Proof.Machine
end

section
/-!
SUPPORT. The configurations without a meaning (10_state R18), and the values reset states (R11, R28).
-/

namespace Sys2Proof.Machine

/-- No command has a meaning under an illegal configuration, whatever it would do (10_state R18). -/
theorem underLegalConfig_refused {s : State} (h : s.cfg.legal = false) (after : State) :
    underLegalConfig s after = .refused .illegalConfig := by
  simp [underLegalConfig, h]

/-- A step without a transfer is the host's turn (30_encoding R40). -/
theorem step_of_not_transfers {s : State} (h : s.transfers = false) : step s = hostTurn s := by
  simp [step, h]

/-- While RESET is asserted no command is transferred (70_reset R100). -/
theorem transfers_of_resetIn {s : State} (h : s.resetIn = true) : s.transfers = false := by
  simp [State.transfers, State.cmdReady, h]

/-- The host's turn makes the first move of its list. -/
theorem hostTurn_cons {s : State} {m : HostMove} {rest : List HostMove} (h : s.host = m :: rest) :
    hostTurn s = hostMove m { s with host := rest } := by
  simp [hostTurn, h]

/-- An idle host leaves the state as it is (30_encoding R46). -/
theorem hostTurn_nil {s : State} (h : s.host = []) : hostTurn s = .next s := by
  simp [hostTurn, h]

/-- Settles O10: both commands run under the guard of a legal configuration, and the release of RESET
looks at the inputs before it latches them. -/
theorem illegalConfigurationIsRefused : Obligations.IllegalConfigurationIsRefused := by
  refine ⟨fun i s h => ?_, fun s rest hr hm hc => ?_⟩
  · cases i with
    | frame univ length => exact underLegalConfig_refused h _
    | tick => exact underLegalConfig_refused h _
  · rw [step_of_not_transfers (transfers_of_resetIn hr), hostTurn_cons hm]
    simp [hostMove, hr, hc]

/-- Settles O11: `0 < alphaNum < alphaDen` leaves no room for an `alphaDen` below 2. -/
theorem legalConfigurationRanges : Obligations.LegalConfigurationRanges := by
  intro c
  rw [legal_iff]
  omega

/-- Settles O36: the state after reset, field by field. -/
theorem resetLeavesTheStatedValues : Obligations.ResetLeavesTheStatedValues :=
  ⟨rfl, rfl, rfl, rfl, rfl, rfl, rfl, by decide⟩

end Sys2Proof.Machine
end

section
/-!
SUPPORT. The ceilings of the sampler's arithmetic: no step of a sample exceeds the larger of the
configured ceiling and the previous duty (42_sampler R71 to R77).
-/

namespace Sys2Proof.Machine

/-- A byte times an amplitude, divided by 255 and rounded, is at most the amplitude. -/
theorem rhu_byte_mul_le (b : Byte) (a : Nat) : rhu (b.toNat * a) 255 ≤ a := by
  have hb : b.toNat ≤ 255 := Nat.le_of_lt_succ b.isLt
  refine rhu_le (by decide) ?_
  calc b.toNat * a ≤ 255 * a := Nat.mul_le_mul_right a hb
    _ = a * 255 := Nat.mul_comm 255 a

theorem effAmp_le (level maxAmplitude : Byte) : effAmp level maxAmplitude ≤ maxAmplitude.toNat :=
  rhu_byte_mul_le level maxAmplitude.toNat

theorem targetDuty_le (n : Byte) (amplitude : Nat) : targetDuty n amplitude ≤ amplitude :=
  rhu_byte_mul_le n amplitude

/-- The filter's weights add up to its denominator, so its output is at most the larger of the two
values it mixes (42_sampler R77). -/
theorem smooth_le_max {c : ConfigRegs} (h : c.legal = true) (target duty : Nat) :
    smooth c target duty ≤ max target duty := by
  obtain ⟨-, -, -, -, hlt, hden⟩ := (legal_iff c).1 h
  refine rhu_le (by omega) ?_
  calc c.alphaNum.toNat * target + (c.alphaDen.toNat - c.alphaNum.toNat) * duty
      ≤ c.alphaNum.toNat * max target duty
          + (c.alphaDen.toNat - c.alphaNum.toNat) * max target duty := by gcongr <;> simp
    _ = max target duty * c.alphaDen.toNat := by
        rw [← Nat.add_mul, Nat.add_sub_cancel' hlt.le, Nat.mul_comm]

/-- The next duty is the filter's output: the clamp has nothing to cut off (42_sampler R74). -/
theorem nextDuty_toNat {c : ConfigRegs} (h : c.legal = true) (level n duty : Byte) :
    (nextDuty c level n duty).toNat =
      smooth c (targetDuty n (effAmp level c.maxAmplitude)) duty.toNat := by
  have hmax := smooth_le_max h (targetDuty n (effAmp level c.maxAmplitude)) duty.toNat
  have htarget := (targetDuty_le n _).trans (effAmp_le level c.maxAmplitude)
  have hceiling : c.maxAmplitude.toNat < 2 ^ 8 := c.maxAmplitude.isLt
  have hduty : duty.toNat < 2 ^ 8 := duty.isLt
  have hle : smooth c (targetDuty n (effAmp level c.maxAmplitude)) duty.toNat ≤ 255 := by omega
  simp only [nextDuty, clamp, Nat.not_lt_zero, if_false, if_neg (Nat.not_lt.2 hle)]
  exact Nat.mod_eq_of_lt (Nat.lt_succ_of_le hle)

/-- A sample's duty is at most the larger of the ceiling and the previous duty (42_sampler R76). -/
theorem nextDuty_le {c : ConfigRegs} (h : c.legal = true) (level n duty : Byte) :
    (nextDuty c level n duty).toNat ≤ max c.maxAmplitude.toNat duty.toNat := by
  rw [nextDuty_toNat h]
  calc smooth c (targetDuty n (effAmp level c.maxAmplitude)) duty.toNat
      ≤ max (targetDuty n (effAmp level c.maxAmplitude)) duty.toNat := smooth_le_max h _ _
    _ ≤ max c.maxAmplitude.toNat duty.toNat :=
        max_le_max_right _ ((targetDuty_le n _).trans (effAmp_le level c.maxAmplitude))

end Sys2Proof.Machine
end

section
/-!
SUPPORT. The invariants between commands, one lemma per transition of the block and per side of the
port, and the step lemma assembled from them (43_tick_fsm R84 to R87).
-/

namespace Sys2Proof.Machine

/-- The last duty of a trace is an event of it. -/
theorem duty_mem_of_lastDuty {out : List SinkEvent} {d : Byte} (h : lastDuty out = some d) :
    .duty d ∈ out := by
  induction out using List.reverseRecOn with
  | nil => simp [lastDuty] at h
  | append_singleton out e ih =>
    cases e with
    | duty d' => simp_all
    | dir l => simp_all

/-- A legal threshold leaves room for the count 0 (10_state R21). -/
theorem threshold_pos_of_legal {c : ConfigRegs} (h : c.legal = true) : 0 < c.threshold.toNat := by
  obtain ⟨-, -, hpos, -⟩ := (legal_iff c).1 h
  exact hpos

namespace Inv

variable {s t : State}

/-- The duty between commands is that of an event, or 0: it keeps to the ceiling (42_sampler R76). -/
theorem currentDuty_le (h : Inv s) : s.currentDuty.toNat ≤ s.cfg.maxAmplitude.toNat := by
  rw [h.lastDuty]
  cases hd : Machine.lastDuty s.out with
  | none => simp
  | some d => simpa [SinkEvent.within] using h.within _ (duty_mem_of_lastDuty hd)

/-- The duty a sample emits keeps to the ceiling, because the previous one does (42_sampler R76). -/
theorem nextDuty_le_ceiling (h : Inv s) (n : Byte) :
    (nextDuty s.cfg s.level n s.currentDuty).toNat ≤ s.cfg.maxAmplitude.toNat :=
  (nextDuty_le h.legal s.level n s.currentDuty).trans (max_le le_rfl h.currentDuty_le)

/-- Clearing the count (40_debounce R52, R53). -/
theorem clearStreak (h : Inv s) : Inv { s with zeroStreak := 0 } :=
  { h with streak := threshold_pos_of_legal h.legal }

/-- Counting a zero frame below the threshold (40_debounce R52). -/
theorem countZero (h : Inv s) (hlt : s.zeroStreak.toNat + 1 < s.cfg.threshold.toNat) :
    Inv { s with zeroStreak := s.zeroStreak + 1 } := by
  have hbyte : s.cfg.threshold.toNat < 2 ^ 8 := s.cfg.threshold.isLt
  have hstreak : (s.zeroStreak + 1).toNat = s.zeroStreak.toNat + 1 :=
    BitVec.toNat_add_of_lt (by simpa using hlt.trans hbyte)
  exact { h with streak := hstreak.trans_lt hlt }

/-- STOP emits the duty 0, which no ceiling forbids (40_debounce R55). -/
theorem stop (h : Inv s) : Inv (stop s) where
  legal := h.legal
  level := by simp
  streak := h.streak
  quiet _ := rfl
  dutyOut := rfl
  lastDuty := by simp
  lastDir l hl := h.lastDir l (by simpa using hl)
  within e he := by
    rcases List.mem_append.1 he with he | he
    · exact h.within e he
    · simp_all [SinkEvent.within]
  port := h.port
  memory := h.memory

/-- A nonzero level in a running block (40_debounce R53). -/
theorem setLevel (h : Inv s) {v : Byte} (hv : v ≠ 0) (hr : s.running = true) :
    Inv { s with level := v } :=
  { h with level := iff_of_true hr (BitVec.toNat_pos_of_ne_zero hv) }

/-- A nonzero level with START (40_debounce R53, R54). -/
theorem start (h : Inv s) {v : Byte} (hv : v ≠ 0) (now : Time) (seed : Position) :
    Inv (start now seed { s with level := v }) :=
  { h with level := iff_of_true rfl (BitVec.toNat_pos_of_ne_zero hv), quiet := nofun }

/-- The zero path in all three of its outcomes (40_debounce R52). -/
theorem zeroFrame (h : Inv s) : Inv (zeroFrame s) := by
  rcases zeroFrame_cases s with ⟨hlt, he⟩ | ⟨-, -, he⟩ | ⟨-, -, he⟩ <;> rw [he]
  · exact h.countZero hlt
  · exact h.stop.clearStreak
  · exact h.clearStreak

/-- The nonzero path in both of its outcomes (40_debounce R53). -/
theorem nonzeroFrame (h : Inv s) {v : Byte} (hv : v ≠ 0) (now : Time) (seed : Position) :
    Inv (nonzeroFrame v now seed s) := by
  rcases nonzeroFrame_cases v now seed s with ⟨hr, he⟩ | ⟨-, he⟩ <;> rw [he]
  · exact h.clearStreak.setLevel hv hr
  · exact h.clearStreak.start hv now seed

/-- The channel step; the time it records is in no invariant (40_debounce R52, R53). -/
theorem channelStep (h : Inv s) (v : Byte) (now : Time) (seed : Position) :
    Inv (channelStep v now seed s) := by
  have hrecorded : Inv { s with lastFrameTime := now } := { h with }
  unfold Machine.channelStep
  split
  · exact hrecorded.zeroFrame
  · next hv => exact hrecorded.nonzeroFrame hv now seed

/-- The first phase of TICK (41_watchdog R60). -/
theorem watchdog (h : Inv s) (now : Time) : Inv (watchdog now s) := by
  rcases watchdog_cases now s with ⟨-, he⟩ | ⟨-, he⟩ <;> rw [he]
  · exact h.stop.clearStreak
  · exact h

/-- The output of a sample in a running block, for a duty that keeps to the ceiling (42_sampler R74,
R75). -/
theorem emit (h : Inv s) (hr : s.running = true) {d : Byte}
    (hd : d.toNat ≤ s.cfg.maxAmplitude.toNat) : Inv (emit d s) where
  legal := h.legal
  level := h.level
  streak := h.streak
  quiet hstopped := absurd (hr.symm.trans hstopped) nofun
  dutyOut := rfl
  lastDuty := by simp
  lastDir l hl := by simpa using hl
  within e he := by
    rw [emit_out] at he
    rcases List.mem_append.1 he with he | he
    · exact h.within e he
    · rcases List.mem_pair.1 he with rfl | rfl
      · exact decide_eq_true hd
      · exact beq_self_eq_true s.cfg.dirLevel
  port := h.port
  memory := h.memory

/-- The second phase of TICK, for any noise source (42_sampler R65). -/
theorem sampleWith (h : Inv s) (noise : Position → Byte) (now : Time) :
    Inv (sampleWith noise now s) := by
  have hadvanced : Inv (advance now s) := { h with }
  unfold Machine.sampleWith
  split
  · next hdue =>
    exact hadvanced.emit ((sampleDue_iff now s).1 hdue).1 (hadvanced.nextDuty_le_ceiling _)
  · exact h

/-- A command that answers a next state, whichever it is. -/
theorem exec (h : Inv s) {i : Instr} (he : exec i s = .next t) : Inv t := by
  cases i with
  | frame univ length =>
    obtain ⟨-, rfl⟩ := underLegalConfig_next.1 he
    split
    · exact h.channelStep (channelByte s) s.now s.seed
    · exact h
  | tick =>
    obtain ⟨-, rfl⟩ := underLegalConfig_next.1 he
    exact (h.watchdog s.now).sampleWith Config.noise s.now

/-- A transfer takes the offer off the port (30_encoding R40). -/
theorem taken (h : Inv s) : Inv s.taken :=
  { h with port := fun _ => rfl }

/-- Without a transfer the port is empty: an offer under RESET is what R105 forbids. -/
theorem cmdValid_of_not_transfers (h : Inv s) (ht : s.transfers = false) : s.cmdValid = false := by
  cases hr : s.resetIn with
  | true => exact h.port hr
  | false => simpa [State.transfers, State.cmdReady, hr] using ht

/-- RESET leaves the registers and the trace as the invariants want them, whatever they were
(70_reset R100, R102). -/
theorem of_resetRegisters (hl : s.cfg.legal = true) (hp : s.cmdValid = false)
    (hm : Memory.wf s.fb) : Inv (resetRegisters s) where
  legal := hl
  level := by simp
  streak := threshold_pos_of_legal hl
  quiet _ := rfl
  dutyOut := rfl
  lastDuty := by simp [Machine.lastDuty]
  lastDir l h := by simp [Machine.lastDir] at h
  within e he := by simp at he
  port _ := hp
  memory := hm

/-- A move of the host at an empty port (70_reset R114). -/
theorem hostMove (h : Inv s) (hp : s.cmdValid = false) {m : HostMove}
    (hmove : hostMove m s = .next t) : Inv t := by
  rcases hostMove_next hmove with ⟨a, d, -, rfl⟩ | ⟨cw, now, seed, -, hr, -, rfl⟩ | ⟨c, -, rfl⟩ |
    ⟨-, rfl⟩ | ⟨-, -, hlegal, rfl⟩ | ⟨-, -, rfl⟩
  · exact { h with memory := write_wf d a.isLt h.memory }
  · exact { h with port := fun hreset => absurd (hr.symm.trans hreset) nofun }
  · exact { h with }
  · exact of_resetRegisters h.legal hp h.memory
  · exact of_resetRegisters hlegal hp h.memory
  · exact h

/-- The host's turn, with a move or without (30_encoding R46). -/
theorem hostTurn (h : Inv s) (hp : s.cmdValid = false) (hturn : hostTurn s = .next t) : Inv t := by
  rcases hostTurn_next hturn with ⟨-, rfl⟩ | ⟨m, rest, -, hmove⟩
  · exact h
  · have hrest : Inv { s with host := rest } := { h with }
    exact hrest.hostMove hp hmove

end Inv

/-- Settles O46: a step is a command run on the state that has taken the offer, or the host's turn at
an empty port. -/
theorem everyStepKeepsTheInvariants : Obligations.EveryStepKeepsTheInvariants := by
  intro s t h hstep
  rcases step_next hstep with ⟨i, -, -, hexec⟩ | ⟨ht, hturn⟩
  · exact h.taken.exec hexec
  · exact h.hostTurn (h.cmdValid_of_not_transfers ht) hturn

end Sys2Proof.Machine
end

section
/-!
SUPPORT. Noninterference of what holds no value yet: the two timestamps and the position while the
block is stopped, and DIR_OUT before the first `Dir` event (10_state R16, R17; 43_tick_fsm R88). Every
operation takes two states that differ at most there to two such states.
-/

namespace Sys2Proof.Machine

/-- The state with other values in the three registers and the output no rule reads unwritten. -/
def State.withUnwritten (tf ts : Time) (pos : Position) (dir : BitVec 1) (s : State) : State :=
  { s with lastFrameTime := tf, lastSampleTime := ts, position := pos, dirOut := dir }

/-- Two decisions on equal conditions are related as their branches are. -/
theorem rel_ite {α : Type} {R : α → α → Prop} {b c : Bool} {x x' y y' : α} (hcond : c = b)
    (hthen : b = true → R x y) (helse : R x' y') :
    R (if b then x else x') (if c then y else y') := by
  subst hcond
  split
  · next hb => exact hthen hb
  · exact helse

namespace SameToRules

variable {s t : State}

/-- A state no rule can tell from `s`, as `s` with other values where they are not seen. -/
theorem exists_withUnwritten (h : SameToRules s t) : ∃ tf ts pos dir,
    t = s.withUnwritten tf ts pos dir ∧
    (s.running = true → tf = s.lastFrameTime ∧ ts = s.lastSampleTime ∧ pos = s.position) ∧
    (lastDir s.out ≠ none → dir = s.dirOut) :=
  ⟨_, _, _, _, h⟩

theorem refl (s : State) : SameToRules s s :=
  ⟨rfl, fun _ => ⟨rfl, rfl, rfl⟩, fun _ => rfl⟩

theorem cfg_eq (h : SameToRules s t) : t.cfg = s.cfg := by rw [h.1]

theorem running_eq (h : SameToRules s t) : t.running = s.running := by rw [h.1]

/-- The watchdog asks for the last frame's time in a running block only (41_watchdog R60). -/
theorem watchdogDue_eq (h : SameToRules s t) (now : Time) :
    watchdogDue now t = watchdogDue now s := by
  obtain ⟨tf, ts, pos, dir, rfl, hrun, -⟩ := h.exists_withUnwritten
  cases hr : s.running with
  | false => simp [watchdogDue, State.withUnwritten, hr]
  | true =>
    obtain ⟨rfl, -, -⟩ := hrun hr
    rfl

/-- The sampler asks for the last sample's time in a running block only (42_sampler R66). -/
theorem sampleDue_eq (h : SameToRules s t) (now : Time) : sampleDue now t = sampleDue now s := by
  obtain ⟨tf, ts, pos, dir, rfl, hrun, -⟩ := h.exists_withUnwritten
  cases hr : s.running with
  | false => simp [sampleDue, State.withUnwritten, hr]
  | true =>
    obtain ⟨-, rfl, -⟩ := hrun hr
    rfl

/-- A processed frame writes its time (40_debounce R52, R53). -/
theorem recordFrame (h : SameToRules s t) (now : Time) :
    SameToRules { s with lastFrameTime := now } { t with lastFrameTime := now } := by
  obtain ⟨tf, ts, pos, dir, rfl, hrun, hdir⟩ := h.exists_withUnwritten
  exact ⟨rfl, fun hr => ⟨rfl, (hrun hr).2⟩, hdir⟩

/-- Every path that writes the zero count (40_debounce R52, R53; 41_watchdog R60). -/
theorem setStreak (h : SameToRules s t) (n : Byte) :
    SameToRules { s with zeroStreak := n } { t with zeroStreak := n } := by
  obtain ⟨tf, ts, pos, dir, rfl, hrun, hdir⟩ := h.exists_withUnwritten
  exact ⟨rfl, hrun, hdir⟩

theorem setLevel (h : SameToRules s t) (v : Byte) :
    SameToRules { s with level := v } { t with level := v } := by
  obtain ⟨tf, ts, pos, dir, rfl, hrun, hdir⟩ := h.exists_withUnwritten
  exact ⟨rfl, hrun, hdir⟩

/-- START writes the position and the sample clock; the frame's time has been written before it
(40_debounce R54). -/
theorem start (h : SameToRules s t) (htime : t.lastFrameTime = s.lastFrameTime) (now : Time)
    (seed : Position) : SameToRules (start now seed s) (start now seed t) := by
  obtain ⟨tf, ts, pos, dir, rfl, -, hdir⟩ := h.exists_withUnwritten
  exact ⟨rfl, fun _ => ⟨htime, rfl, rfl⟩, hdir⟩

/-- STOP adds no `Dir` event and reads nothing (40_debounce R55). -/
theorem stop (h : SameToRules s t) : SameToRules (stop s) (stop t) := by
  obtain ⟨tf, ts, pos, dir, rfl, -, hdir⟩ := h.exists_withUnwritten
  exact ⟨rfl, nofun, fun hsome => hdir (by simpa using hsome)⟩

/-- The zero path decides on the count and on whether the block runs (40_debounce R52). -/
theorem zeroFrame (h : SameToRules s t) : SameToRules (zeroFrame s) (zeroFrame t) := by
  have hstreak : t.zeroStreak = s.zeroStreak := by rw [h.1]
  have hreached : thresholdReached t = thresholdReached s := by
    simp only [thresholdReached, h.cfg_eq, hstreak]
  have hstopped : SameToRules (if s.running then Machine.stop s else s)
      (if t.running then Machine.stop t else t) := rel_ite h.running_eq (fun _ => h.stop) h
  have hcounted : SameToRules { s with zeroStreak := s.zeroStreak + 1 }
      { t with zeroStreak := t.zeroStreak + 1 } := hstreak ▸ h.setStreak (s.zeroStreak + 1)
  exact rel_ite (R := SameToRules) hreached (fun _ => hstopped.setStreak 0) hcounted

/-- The nonzero path, once the frame's time is written (40_debounce R53). -/
theorem nonzeroFrame (h : SameToRules s t) (htime : t.lastFrameTime = s.lastFrameTime) (v : Byte)
    (now : Time) (seed : Position) :
    SameToRules (nonzeroFrame v now seed s) (nonzeroFrame v now seed t) := by
  have hset : SameToRules { s with zeroStreak := 0, level := v }
      { t with zeroStreak := 0, level := v } := (h.setStreak 0).setLevel v
  exact rel_ite (R := SameToRules) h.running_eq (fun _ => hset) (hset.start htime now seed)

/-- The channel step writes the frame's time before anything else (40_debounce R52, R53). -/
theorem channelStep (h : SameToRules s t) (v : Byte) (now : Time) (seed : Position) :
    SameToRules (channelStep v now seed s) (channelStep v now seed t) := by
  unfold Machine.channelStep
  split
  · exact (h.recordFrame now).zeroFrame
  · exact (h.recordFrame now).nonzeroFrame rfl v now seed

/-- The first phase of TICK (41_watchdog R60). -/
theorem watchdog (h : SameToRules s t) (now : Time) :
    SameToRules (watchdog now s) (watchdog now t) :=
  rel_ite (R := SameToRules) (h.watchdogDue_eq now) (fun _ => h.stop.setStreak 0) h

/-- A sample is taken in a running block, where only DIR_OUT can differ, and it writes DIR_OUT
(42_sampler R65, R75). -/
theorem sampleWith (h : SameToRules s t) (noise : Position → Byte) (now : Time) :
    SameToRules (sampleWith noise now s) (sampleWith noise now t) := by
  refine rel_ite (R := SameToRules) (h.sampleDue_eq now) (fun hdue => ?_) h
  obtain ⟨tf, ts, pos, dir, rfl, hrun, -⟩ := h.exists_withUnwritten
  obtain ⟨rfl, rfl, rfl⟩ := hrun ((sampleDue_iff now s).1 hdue).1
  exact refl _

/-- A command's guard reads the configuration only (10_state R18). -/
theorem underLegalConfig {a b : State} (h : SameToRules s t) (hafter : SameToRules a b) :
    SameOutcome (underLegalConfig s a) (underLegalConfig t b) :=
  rel_ite (R := SameOutcome) (congrArg ConfigRegs.legal h.cfg_eq) (fun _ => hafter) rfl

/-- Both commands (40_debounce R50, 43_tick_fsm R80). -/
theorem exec (h : SameToRules s t) (i : Instr) : SameOutcome (exec i s) (exec i t) := by
  obtain ⟨tf, ts, pos, dir, rfl, -, -⟩ := h.exists_withUnwritten
  cases i with
  | frame univ length =>
    exact h.underLegalConfig (rel_ite (R := SameToRules) rfl
      (fun _ => h.channelStep (channelByte s) s.now s.seed) h)
  | tick => exact h.underLegalConfig ((h.watchdog s.now).sampleWith Config.noise s.now)

/-- Taking the offer (30_encoding R40). -/
theorem taken (h : SameToRules s t) : SameToRules s.taken t.taken := by
  obtain ⟨tf, ts, pos, dir, rfl, hrun, hdir⟩ := h.exists_withUnwritten
  exact ⟨rfl, hrun, hdir⟩

/-- The host's list of moves is the same and goes on alike. -/
theorem setHost (h : SameToRules s t) (rest : List HostMove) :
    SameToRules { s with host := rest } { t with host := rest } := by
  obtain ⟨tf, ts, pos, dir, rfl, hrun, hdir⟩ := h.exists_withUnwritten
  exact ⟨rfl, hrun, hdir⟩

/-- A move of the host writes ports or memory, or is a RESET, which writes all that could differ
(70_reset R100, R114). -/
theorem hostMove (h : SameToRules s t) (m : HostMove) :
    SameOutcome (hostMove m s) (hostMove m t) := by
  obtain ⟨tf, ts, pos, dir, rfl, hrun, hdir⟩ := h.exists_withUnwritten
  cases m with
  | writeFb addr data => exact ⟨rfl, hrun, hdir⟩
  | offer cw now seed =>
    exact rel_ite (R := SameOutcome) rfl (fun _ => ⟨rfl, hrun, hdir⟩) rfl
  | driveConfig inputs => exact ⟨rfl, hrun, hdir⟩
  | assertReset => exact refl (resetRegisters { s with resetIn := true })
  | releaseReset =>
    refine rel_ite (R := SameOutcome) rfl (fun _ => ?_) h
    exact rel_ite (R := SameOutcome) rfl
      (fun _ => refl (resetRegisters { s with resetIn := false, cfg := s.cfgIn })) rfl

/-- The host's turn. -/
theorem hostTurn (h : SameToRules s t) : SameOutcome (hostTurn s) (hostTurn t) := by
  have hhost : t.host = s.host := by rw [h.1]
  cases hs : s.host with
  | nil =>
    rw [hostTurn_nil hs, hostTurn_nil (hhost.trans hs)]
    exact h
  | cons m rest =>
    rw [hostTurn_cons hs, hostTurn_cons (hhost.trans hs)]
    exact (h.setHost rest).hostMove m

end SameToRules

/-- Settles O48: the port says the same in both states, so both run the same command, refuse the same
word, or give the host its turn. -/
theorem unwrittenRegistersAreNeverRead : Obligations.UnwrittenRegistersAreNeverRead := by
  intro s t h
  have htransfers : t.transfers = s.transfers := by rw [h.1]; rfl
  have hoffered : t.offered = s.offered := by rw [h.1]; rfl
  unfold step
  rw [htransfers, hoffered]
  split
  · split
    · next i _ => exact h.taken.exec i
    · rfl
  · exact h.hostTurn

end Sys2Proof.Machine
end

section
/-!
SUPPORT. What the commands leave alone: the configuration, the frame buffer, the ports and the host's
moves. Only a host write changes the frame buffer, and it keeps its form (20_memory R30 to R36).
-/

namespace Sys2Proof.Machine

/-- Two states that agree in everything around the block's own registers and outputs: what the host
drives or writes, and the latched configuration. -/
structure SameSurroundings (s t : State) : Prop where
  cfg : t.cfg = s.cfg
  fb : t.fb = s.fb
  resetIn : t.resetIn = s.resetIn
  cfgIn : t.cfgIn = s.cfgIn
  cmdValid : t.cmdValid = s.cmdValid
  cw : t.cw = s.cw
  now : t.now = s.now
  seed : t.seed = s.seed
  host : t.host = s.host

/-- A command writes registers and outputs only, whichever of its outcomes it takes. -/
theorem exec_sameSurroundings {i : Instr} {s t : State} (h : exec i s = .next t) :
    SameSurroundings s t := by
  cases i with
  | frame univ length =>
    obtain ⟨-, hcases⟩ := exec_frame_cases h
    rcases hcases with ⟨-, rfl⟩ | ⟨-, -, -, rfl⟩ | ⟨-, -, -, -, rfl⟩ | ⟨-, -, -, -, rfl⟩ |
      ⟨-, -, -, rfl⟩ | ⟨-, -, -, rfl⟩ <;> exact ⟨rfl, rfl, rfl, rfl, rfl, rfl, rfl, rfl, rfl⟩
  | tick =>
    obtain ⟨-, hcases⟩ := exec_tick_cases h
    rcases hcases with ⟨-, rfl⟩ | ⟨-, -, rfl⟩ | ⟨-, -, rfl⟩ <;>
      exact ⟨rfl, rfl, rfl, rfl, rfl, rfl, rfl, rfl, rfl⟩

/-- A step leaves the frame buffer as it is, or is one write of the host (20_memory R36). -/
theorem step_fb {s t : State} (h : step s = .next t) : t.fb = s.fb ∨
    ∃ addr data rest, s.transfers = false ∧ s.host = .writeFb addr data :: rest ∧
      t.fb = Memory.write s.fb addr.toNat data := by
  rcases step_next h with ⟨i, -, -, hexec⟩ | ⟨htransfers, hturn⟩
  · exact .inl (exec_sameSurroundings hexec).fb
  · rcases hostTurn_next hturn with ⟨-, rfl⟩ | ⟨m, rest, hhost, hmove⟩
    · exact .inl rfl
    · rcases hostMove_next hmove with ⟨addr, data, rfl, rfl⟩ | ⟨cw, now, seed, -, -, -, rfl⟩ |
        ⟨c, -, rfl⟩ | ⟨-, rfl⟩ | ⟨-, -, -, rfl⟩ | ⟨-, -, rfl⟩
      · exact .inr ⟨addr, data, rest, htransfers, hhost, rfl⟩
      all_goals exact .inl rfl

/-- Settles O47: the one change a step can make is a write at a nine-bit address. -/
theorem everyStepKeepsTheMemoryForm : Obligations.EveryStepKeepsTheMemoryForm := by
  intro s t hwf hstep
  rcases step_fb hstep with hsame | ⟨addr, data, rest, -, -, hwrite⟩
  · rwa [hsame]
  · rw [hwrite]
    exact write_wf data addr.isLt hwf

/-- Settles O39: a step that changes the frame buffer is a host write, and a read after a write gives
the byte written at its address and the old byte elsewhere. -/
theorem onlyHostWritesChangeTheFrameBuffer : Obligations.OnlyHostWritesChangeTheFrameBuffer := by
  refine ⟨fun s t hstep a => ?_, fun s addr data rest htransfers hhost => ?_⟩
  · rcases step_fb hstep with hsame | ⟨addr, data, rest, htransfers, hhost, hwrite⟩
    · exact .inl (by rw [hsame])
    · rw [hwrite]
      by_cases ha : addr.toNat = a
      · subst ha
        exact .inr ⟨addr, data, rest, htransfers, hhost, rfl, read_write_same _ _ _⟩
      · exact .inl (read_write_other _ _ ha)
  · rw [step_of_not_transfers htransfers, hostTurn_cons hhost]
    exact ⟨_, rfl, read_write_same _ _ _, fun a ha => read_write_other _ _ ha.symm⟩

end Sys2Proof.Machine
end

section
/-!
SUPPORT. Which registers and outputs a FRAME and a TICK can change, and how the trace grows in a step
(40_debounce R53 to R55, 43_tick_fsm R80, 20_memory R38).
-/

namespace Sys2Proof.Machine

/-- Only START touches the position and the sample clock (40_debounce R54). -/
theorem exec_frame_keeps_position_or_starts {univ length : Half} {s t : State}
    (h : exec (.frame univ length) s = .next t) :
    (t.position = s.position ∧ t.lastSampleTime = s.lastSampleTime) ∨
    (s.running = false ∧ t.running = true) := by
  obtain ⟨-, hcases⟩ := exec_frame_cases h
  rcases hcases with ⟨-, rfl⟩ | ⟨-, -, -, rfl⟩ | ⟨-, -, -, -, rfl⟩ | ⟨-, -, -, -, rfl⟩ |
    ⟨-, -, -, rfl⟩ | ⟨-, -, hstopped, rfl⟩
  · exact .inl ⟨rfl, rfl⟩
  · exact .inl ⟨rfl, rfl⟩
  · exact .inl ⟨rfl, rfl⟩
  · exact .inl ⟨rfl, rfl⟩
  · exact .inl ⟨rfl, rfl⟩
  · exact .inr ⟨hstopped, rfl⟩

/-- Only STOP touches the duty and calls the sink, once (40_debounce R55). -/
theorem exec_frame_keeps_duty_or_stops {univ length : Half} {s t : State}
    (h : exec (.frame univ length) s = .next t) :
    (t.currentDuty = s.currentDuty ∧ t.dutyOut = s.dutyOut ∧ t.out = s.out) ∨
    (s.running = true ∧ t.running = false ∧ t.out = s.out ++ [.duty 0]) := by
  obtain ⟨-, hcases⟩ := exec_frame_cases h
  rcases hcases with ⟨-, rfl⟩ | ⟨-, -, -, rfl⟩ | ⟨-, -, -, hrunning, rfl⟩ | ⟨-, -, -, -, rfl⟩ |
    ⟨-, -, -, rfl⟩ | ⟨-, -, -, rfl⟩
  · exact .inl ⟨rfl, rfl, rfl⟩
  · exact .inl ⟨rfl, rfl, rfl⟩
  · exact .inr ⟨hrunning, rfl, rfl⟩
  all_goals exact .inl ⟨rfl, rfl, rfl⟩

/-- No path of a FRAME calls `SinkDir` (42_sampler R75). -/
theorem exec_frame_dirOut {univ length : Half} {s t : State}
    (h : exec (.frame univ length) s = .next t) : t.dirOut = s.dirOut := by
  obtain ⟨-, hcases⟩ := exec_frame_cases h
  rcases hcases with ⟨-, rfl⟩ | ⟨-, -, -, rfl⟩ | ⟨-, -, -, -, rfl⟩ | ⟨-, -, -, -, rfl⟩ |
    ⟨-, -, -, rfl⟩ | ⟨-, -, -, rfl⟩ <;> rfl

/-- Settles O15: what changes names its transition. -/
theorem frameLeavesTheRestUnchanged : Obligations.FrameLeavesTheRestUnchanged := by
  intro univ length s t h
  obtain ⟨hcfg, hfb, hresetIn, hcfgIn, hcmdValid, hcw, hnow, hseed, hhost⟩ :=
    exec_sameSurroundings h
  refine ⟨⟨hcfg, exec_frame_dirOut h, fun a => by rw [hfb], hresetIn, hcfgIn, hcmdValid, hcw, hnow,
    hseed, hhost⟩, fun hchanged => ?_, fun hchanged => ?_⟩
  · exact (exec_frame_keeps_position_or_starts h).resolve_left (not_and_or.2 hchanged)
  · rcases exec_frame_keeps_duty_or_stops h with hkept | ⟨hrunning, hstopped, -⟩
    · exact absurd hkept (not_and_or.2 (hchanged.imp_right not_and_or.2))
    · exact ⟨hrunning, hstopped⟩

/-- Settles O23: a TICK is the watchdog's stop, or nothing, or one sample of a running block. -/
theorem tickLeavesTheRestUnchanged : Obligations.TickLeavesTheRestUnchanged := by
  intro s t h
  obtain ⟨hcfg, hfb, hresetIn, hcfgIn, hcmdValid, hcw, hnow, hseed, hhost⟩ :=
    exec_sameSurroundings h
  obtain ⟨-, hcases⟩ := exec_tick_cases h
  have htime : t.lastFrameTime = s.lastFrameTime := by
    rcases hcases with ⟨-, rfl⟩ | ⟨-, -, rfl⟩ | ⟨-, -, rfl⟩ <;> rfl
  refine ⟨⟨htime, hcfg, fun a => by rw [hfb], hresetIn, hcfgIn, hcmdValid, hcw, hnow, hseed, hhost⟩,
    ?_⟩
  rcases hcases with ⟨hdue, rfl⟩ | ⟨-, -, rfl⟩ | ⟨-, hdue, rfl⟩
  · have hrunning : s.running = true := ((watchdogDue_iff s.now s).1 hdue).1
    exact ⟨fun _ => hrunning, fun _ => ⟨hrunning, rfl⟩, by simp, by simp [hrunning]⟩
  · simp
  · have hrunning : s.running = true := ((sampleDue_iff s.now s).1 hdue).1
    exact ⟨fun _ => hrunning, by simp, fun _ => ⟨hrunning, hrunning⟩, by simp [hrunning]⟩

/-- The sink calls of one command: none, the one of a stop, or the two of a sample (40_debounce R50,
43_tick_fsm R80). -/
theorem exec_out {i : Instr} {s t : State} (h : exec i s = .next t) :
    t.out = s.out ∨
    (s.running = true ∧ t.running = false ∧ t.out = s.out ++ [.duty 0]) ∨
    (s.running = true ∧ t.running = true ∧
      t.out = s.out ++ [.duty t.currentDuty, .dir s.cfg.dirLevel]) := by
  cases i with
  | frame univ length =>
    rcases exec_frame_keeps_duty_or_stops h with ⟨-, -, hout⟩ | hstop
    · exact .inl hout
    · exact .inr (.inl hstop)
  | tick =>
    obtain ⟨-, hcases⟩ := exec_tick_cases h
    rcases hcases with ⟨hdue, rfl⟩ | ⟨-, -, rfl⟩ | ⟨-, hdue, rfl⟩
    · exact .inr (.inl ⟨((watchdogDue_iff s.now s).1 hdue).1, rfl, rfl⟩)
    · exact .inl rfl
    · have hrunning : s.running = true := ((sampleDue_iff s.now s).1 hdue).1
      exact .inr (.inr ⟨hrunning, hrunning, rfl⟩)

/-- The host's turn leaves the trace as it is, or is a RESET, which empties it (70_reset R100,
R102). -/
theorem hostTurn_out {s t : State} (h : hostTurn s = .next t) :
    t.out = s.out ∨
    (t.out = [] ∧ ∃ m rest, s.host = m :: rest ∧ (m = .assertReset ∨ m = .releaseReset)) := by
  rcases hostTurn_next h with ⟨-, rfl⟩ | ⟨m, rest, hhost, hmove⟩
  · exact .inl rfl
  · rcases hostMove_next hmove with ⟨addr, data, -, rfl⟩ | ⟨cw, now, seed, -, -, -, rfl⟩ |
      ⟨c, -, rfl⟩ | ⟨hm, rfl⟩ | ⟨hm, -, -, rfl⟩ | ⟨-, -, rfl⟩
    · exact .inl rfl
    · exact .inl rfl
    · exact .inl rfl
    · exact .inr ⟨rfl, m, rest, hhost, .inl hm⟩
    · exact .inr ⟨rfl, m, rest, hhost, .inr hm⟩
    · exact .inl rfl

/-- Settles O43: a command makes its sink calls, and the host's turn makes none. -/
theorem traceGrowsByWholeGroups : Obligations.TraceGrowsByWholeGroups := by
  intro s t hstep
  rcases step_next hstep with ⟨i, -, -, hexec⟩ | ⟨htransfers, hturn⟩
  · rcases exec_out hexec with hsame | hstop | ⟨hbefore, hafter, hsample⟩
    · exact .inl hsame
    · exact .inr (.inl hstop)
    · exact .inr (.inr (.inl ⟨hbefore, hafter, _, hsample, .refl _⟩))
  · rcases hostTurn_out hturn with hsame | ⟨hempty, hreset⟩
    · exact .inl hsame
    · exact .inr (.inr (.inr ⟨htransfers, hempty, hreset⟩))

end Sys2Proof.Machine
end

section
/-!
SUPPORT. Noninterference of SEED and the frame buffer: beside the draw and the byte it is handed, the
channel step reads neither, and TICK reads neither at all (20_memory R31, 30_encoding R41).
-/

namespace Sys2Proof.Machine

/-- The state with another level on SEED and another frame buffer. -/
def State.withSeedAndFb (seed : Position) (fb : List Host.Cell) (s : State) : State :=
  { s with seed := seed, fb := fb }

/-- The zero path's two decisions read the count, the threshold and whether the block runs
(40_debounce R52). -/
theorem zeroFrame_withSeedAndFb (seed : Position) (fb : List Host.Cell) (s : State) :
    zeroFrame (s.withSeedAndFb seed fb) = (zeroFrame s).withSeedAndFb seed fb := by
  have hstopped : (if (s.withSeedAndFb seed fb).running then stop (s.withSeedAndFb seed fb)
      else s.withSeedAndFb seed fb) = (if s.running then stop s else s).withSeedAndFb seed fb := by
    rw [apply_ite (State.withSeedAndFb seed fb)]; rfl
  unfold zeroFrame
  rw [hstopped, apply_ite (State.withSeedAndFb seed fb) (thresholdReached s = true)]
  rfl

/-- The nonzero path decides on whether the block runs, and takes its draw as an argument
(40_debounce R53). -/
theorem nonzeroFrame_withSeedAndFb (seed : Position) (fb : List Host.Cell) (v : Byte) (now : Time)
    (draw : Position) (s : State) :
    nonzeroFrame v now draw (s.withSeedAndFb seed fb) =
      (nonzeroFrame v now draw s).withSeedAndFb seed fb := by
  unfold nonzeroFrame
  rw [apply_ite (State.withSeedAndFb seed fb)]
  rfl

theorem channelStep_withSeedAndFb (seed : Position) (fb : List Host.Cell) (v : Byte) (now : Time)
    (draw : Position) (s : State) :
    channelStep v now draw (s.withSeedAndFb seed fb) =
      (channelStep v now draw s).withSeedAndFb seed fb := by
  unfold channelStep
  split
  · exact zeroFrame_withSeedAndFb seed fb { s with lastFrameTime := now }
  · exact nonzeroFrame_withSeedAndFb seed fb v now draw { s with lastFrameTime := now }

/-- The watchdog decides on the times and the flag (41_watchdog R60). -/
theorem watchdog_withSeedAndFb (seed : Position) (fb : List Host.Cell) (now : Time) (s : State) :
    watchdog now (s.withSeedAndFb seed fb) = (watchdog now s).withSeedAndFb seed fb := by
  unfold watchdog
  rw [apply_ite (State.withSeedAndFb seed fb)]
  rfl

/-- The sampler's noise comes from the position, not from SEED (42_sampler R67, R68). -/
theorem sample_withSeedAndFb (seed : Position) (fb : List Host.Cell) (now : Time) (s : State) :
    sample now (s.withSeedAndFb seed fb) = (sample now s).withSeedAndFb seed fb := by
  unfold sample sampleWith
  rw [apply_ite (State.withSeedAndFb seed fb)]
  rfl

/-- Settles O24: both phases of TICK commute with the change. -/
theorem tickIgnoresSeedAndFrameBuffer : Obligations.TickIgnoresSeedAndFrameBuffer := by
  intro s t seed fb h
  obtain ⟨hl, rfl⟩ := underLegalConfig_next.1 h
  calc exec .tick (s.withSeedAndFb seed fb)
      = .next (sample s.now (watchdog s.now (s.withSeedAndFb seed fb))) := exec_tick hl
    _ = .next ((sample s.now (watchdog s.now s)).withSeedAndFb seed fb) := by
        rw [watchdog_withSeedAndFb, sample_withSeedAndFb]

/-- Settles O17: the filter does not read the frame buffer, and a frame that passes it hands the
channel step one byte. -/
theorem frameReadsAtMostTheChannelByte : Obligations.FrameReadsAtMostTheChannelByte := by
  intro univ length s t fb hbyte h
  have hfb : { t with fb := fb } = t.withSeedAndFb s.seed fb := by
    rw [← (exec_sameSurroundings h).seed]; rfl
  obtain ⟨hl, rfl⟩ := underLegalConfig_next.1 h
  rw [hfb]
  refine (exec_frame (s := s.withSeedAndFb s.seed fb) hl univ length).trans (congrArg _ ?_)
  cases haccepts : accepts s.cfg univ length with
  | false => simp [State.withSeedAndFb, haccepts]
  | true =>
    have hchannel : channelByte (s.withSeedAndFb s.seed fb) = channelByte s :=
      hbyte ((accepts_iff s.cfg univ length).1 haccepts)
    calc (if accepts s.cfg univ length then
            channelStep (channelByte (s.withSeedAndFb s.seed fb)) s.now s.seed
              (s.withSeedAndFb s.seed fb)
          else s.withSeedAndFb s.seed fb)
        = channelStep (channelByte s) s.now s.seed (s.withSeedAndFb s.seed fb) := by
          rw [if_pos haccepts, hchannel]
      _ = (channelStep (channelByte s) s.now s.seed s).withSeedAndFb s.seed fb :=
          channelStep_withSeedAndFb s.seed fb (channelByte s) s.now s.seed s

end Sys2Proof.Machine
end

section
/-!
SUPPORT. A step without a transfer (30_encoding R40, 20_memory R35).
-/

namespace Sys2Proof.Machine

/-- No command is transferred while none is valid or while RESET is asserted (30_encoding R40,
70_reset R100). -/
theorem transfers_eq_false_iff (s : State) :
    s.transfers = false ↔ s.cmdValid = false ∨ s.resetIn = true := by
  rw [State.transfers, Bool.and_eq_false_iff, State.cmdReady, Bool.not_eq_false']

/-- Settles O8: without a transfer the step is the host's turn, with a move or without. -/
theorem stepWithoutTransferIsTheHostsMove : Obligations.StepWithoutTransferIsTheHostsMove := by
  intro s hport
  rw [step_of_not_transfers ((transfers_eq_false_iff s).2 hport)]
  exact ⟨hostTurn_nil, fun m rest hhost => hostTurn_cons hhost⟩

end Sys2Proof.Machine
end

section
/-!
SUPPORT. The fields of a command word as numbers, and the one law of the codec: a word decodes to a
command exactly if it is the command's word (30_encoding R42 to R46).
-/

namespace Sys2Proof

/-! ## The fields as numbers (30_encoding R42) -/

@[simp] theorem CommandWord.op_toNat (w : CommandWord) :
    (CommandWord.op w).toNat = w.toNat / 2 ^ 32 := by
  have hw : w.toNat < 2 ^ 40 := w.isLt
  simp only [CommandWord.op, BitVec.extractLsb'_toNat, Nat.shiftRight_eq_div_pow]
  omega

@[simp] theorem CommandWord.univ_toNat (w : CommandWord) :
    (CommandWord.univ w).toNat = w.toNat / 2 ^ 16 % 2 ^ 16 := by
  simp [CommandWord.univ, Nat.shiftRight_eq_div_pow]

@[simp] theorem CommandWord.length_toNat (w : CommandWord) :
    (CommandWord.length w).toNat = w.toNat % 2 ^ 16 := by
  simp [CommandWord.length]

@[simp] theorem CommandWord.rest_toNat (w : CommandWord) :
    (CommandWord.rest w).toNat = w.toNat % 2 ^ 32 := by
  simp [CommandWord.rest]

/-- Concatenated bits as a number. -/
theorem toNat_append_eq_add {m n : Nat} (x : BitVec m) (y : BitVec n) :
    (x ++ y).toNat = x.toNat * 2 ^ n + y.toNat := by
  rw [BitVec.toNat_append, ← Nat.shiftLeft_add_eq_or_of_lt y.isLt, Nat.shiftLeft_eq]

theorem encode_frame_toNat (univ length : Half) :
    (encode (.frame univ length)).toNat = 2 ^ 32 + univ.toNat * 2 ^ 16 + length.toNat := by
  have hop : (0x01#8).toNat = 1 := rfl
  calc (0x01#8 ++ univ ++ length).toNat
      = ((0x01#8).toNat * 2 ^ 16 + univ.toNat) * 2 ^ 16 + length.toNat := by
        rw [toNat_append_eq_add, toNat_append_eq_add]
    _ = 2 ^ 32 + univ.toNat * 2 ^ 16 + length.toNat := by omega

theorem encode_tick_toNat : (encode .tick).toNat = 2 * 2 ^ 32 := rfl

/-! ## What decodes (30_encoding R45) -/

/-- Format CF: the field `op` selects it, and the operands are the fields as they stand (R43). -/
theorem decode_eq_frame_iff {w : CommandWord} {univ length : Half} :
    decode w = .ok (.frame univ length) ↔
      CommandWord.op w = 0x01#8 ∧ CommandWord.univ w = univ ∧ CommandWord.length w = length := by
  unfold decode
  split
  · simp_all
  · split
    · split <;> simp_all
    · simp_all

/-- Format CT: beside `op` the word is zero (R44). -/
theorem decode_eq_tick_iff {w : CommandWord} :
    decode w = .ok .tick ↔ CommandWord.op w = 0x02#8 ∧ CommandWord.rest w = 0#32 := by
  unfold decode
  split
  · simp_all
  · split
    · split <;> simp_all
    · simp_all

/-- A word decodes to a command exactly if it is the word of that command: its fields determine it,
and no bit lies outside them (R42, R45). -/
theorem decode_eq_ok_iff {w : CommandWord} {i : Instr} : decode w = .ok i ↔ encode i = w := by
  cases i with
  | frame univ length =>
    have hlength : length.toNat < 2 ^ 16 := length.isLt
    have huniv : univ.toNat < 2 ^ 16 := univ.isLt
    simp only [decode_eq_frame_iff, ← BitVec.toNat_inj, CommandWord.op_toNat, CommandWord.univ_toNat,
      CommandWord.length_toNat, encode_frame_toNat, BitVec.toNat_ofNat]
    omega
  | tick =>
    simp only [decode_eq_tick_iff, ← BitVec.toNat_inj, CommandWord.op_toNat, CommandWord.rest_toNat,
      encode_tick_toNat, BitVec.toNat_ofNat]
    omega

theorem decode_encode (i : Instr) : decode (encode i) = .ok i := decode_eq_ok_iff.2 rfl

/-- Settles O1: the law read from right to left. -/
theorem decodeReadsBackEveryEncodedCommand : Obligations.DecodeReadsBackEveryEncodedCommand :=
  fun i _ => decode_encode i

/-- Settles O2: the law read from left to right. -/
theorem encodeReadsBackEveryDecodedWord : Obligations.EncodeReadsBackEveryDecodedWord :=
  fun _ _ => decode_eq_ok_iff.1

/-- Settles O4: the fields the decoder takes, as numbers. -/
theorem frameFieldsAreBitSlices : Obligations.FrameFieldsAreBitSlices := by
  intro w univ length h
  obtain ⟨hop, rfl, rfl⟩ := decode_eq_frame_iff.1 h
  have hopNat : w.toNat / 2 ^ 32 = 1 := by rw [← CommandWord.op_toNat, hop]; rfl
  exact ⟨hopNat, CommandWord.univ_toNat w, CommandWord.length_toNat w⟩

/-! ## The opcode map's masks (30_encoding R45) -/

theorem CommandWord.op_append_rest (w : CommandWord) :
    CommandWord.op w ++ CommandWord.rest w = w := by
  apply BitVec.eq_of_toNat_eq
  rw [toNat_append_eq_add, CommandWord.op_toNat, CommandWord.rest_toNat]
  exact Nat.div_add_mod' _ _

/-- FRAME's mask keeps the field `op` and clears the rest. -/
theorem and_frameMask (w : CommandWord) : w &&& 0xFF00000000#40 = CommandWord.op w ++ 0#32 := by
  calc w &&& 0xFF00000000#40
      = (CommandWord.op w ++ CommandWord.rest w) &&& (BitVec.allOnes 8 ++ 0#32) := by
        rw [CommandWord.op_append_rest]; rfl
    _ = (CommandWord.op w &&& BitVec.allOnes 8) ++ (CommandWord.rest w &&& 0#32) :=
        BitVec.and_append
    _ = CommandWord.op w ++ 0#32 := by rw [BitVec.and_allOnes, BitVec.and_zero]

/-- FRAME's row holds the words of its `op`. -/
theorem and_frameMask_eq_iff {w : CommandWord} :
    w &&& 0xFF00000000#40 = 0x0100000000#40 ↔ CommandWord.op w = 0x01#8 := by
  have hpattern : 0x0100000000#40 = 0x01#8 ++ 0#32 := by decide
  rw [and_frameMask, hpattern, BitVec.append_left_inj]

/-- TICK's mask keeps the whole word. -/
theorem and_tickMask (w : CommandWord) : w &&& 0xFFFFFFFFFF#40 = w := BitVec.and_allOnes

/-- Settles O3: FRAME's mask leaves the field `op`, TICK's the whole word, and a word that matched
both rows would decode to both commands. -/
theorem decoderFollowsTheOpcodeMap : Obligations.DecoderFollowsTheOpcodeMap := by
  intro w
  have hframe : (∃ univ length, decode w = .ok (.frame univ length)) ↔
      w &&& 0xFF00000000#40 = 0x0100000000#40 := by
    simp [decode_eq_frame_iff, and_frameMask_eq_iff]
  have htick : decode w = .ok .tick ↔ w &&& 0xFFFFFFFFFF#40 = 0x0200000000#40 := by
    rw [and_tickMask, decode_eq_ok_iff, eq_comm]; rfl
  refine ⟨hframe, htick, fun ⟨hf, ht⟩ => ?_⟩
  obtain ⟨univ, length, hdecode⟩ := hframe.2 hf
  exact nomatch hdecode.symm.trans (htick.2 ht)

/-- Settles O6: the words the spec works out, decoded and encoded. -/
theorem workedEncodings : Obligations.WorkedEncodings := by
  unfold Obligations.WorkedEncodings
  decide

end Sys2Proof
end

section
/-!
SUPPORT. The command port: the step that transfers a command, the steps of the host that write a byte
and offer a command, and the pseudo-commands VALUE and ITER made of them (30_encoding R40, R46 to R48).
-/

namespace Sys2Proof.Machine

/-! ## A transfer (30_encoding R40) -/

/-- A command is transferred when one is valid and RESET is low. -/
theorem transfers_of_valid {s : State} (hvalid : s.cmdValid = true) (hreset : s.resetIn = false) :
    s.transfers = true := by
  simp [State.transfers, State.cmdReady, hvalid, hreset]

/-- A transferred word that decodes is run in the state that has taken the offer (70_reset R106). -/
theorem step_of_transfers {s : State} {i : Instr} (h : s.transfers = true)
    (hdecode : decode s.cw = .ok i) : step s = exec i s.taken := by
  simp [step, State.offered, h, hdecode]

/-- A transferred word that does not decode is refused (30_encoding R46). -/
theorem step_of_transfers_reserved {s : State} {why : DecodeError} (h : s.transfers = true)
    (hdecode : decode s.cw = .error why) : step s = .refused (.reservedWord why) := by
  simp [step, State.offered, h, hdecode]

/-- Settles O7: the step equation of a transfer. -/
theorem stepRunsTheTransferredCommand : Obligations.StepRunsTheTransferredCommand :=
  fun _ _ hvalid hreset hdecode => step_of_transfers (transfers_of_valid hvalid hreset) hdecode

/-- Settles O5: a word that decoded would be the word of a FRAME or of TICK, whose numbers are outside
the three reserved classes. -/
theorem reservedWordsAreRefused : Obligations.ReservedWordsAreRefused := by
  intro s hvalid hreset hreserved
  cases hdecode : decode s.cw with
  | error why => exact ⟨why, step_of_transfers_reserved (transfers_of_valid hvalid hreset) hdecode⟩
  | ok i =>
    have hword : encode i = s.cw := decode_eq_ok_iff.1 hdecode
    rw [← hword] at hreserved
    cases i with
    | frame univ length =>
      have huniv : univ.toNat < 2 ^ 16 := univ.isLt
      have hlength : length.toNat < 2 ^ 16 := length.isLt
      rw [encode_frame_toNat] at hreserved
      omega
    | tick =>
      rw [encode_tick_toNat] at hreserved
      omega

/-! ## The host's turn (30_encoding R47) -/

/-- A host write (20_memory R32). -/
theorem step_writeFb {s : State} {addr : BitVec 9} {data : Byte} {rest : List HostMove}
    (h : s.transfers = false) (hhost : s.host = .writeFb addr data :: rest) :
    step s = .next { s with host := rest, fb := Memory.write s.fb addr.toNat data } := by
  rw [step_of_not_transfers h, hostTurn_cons hhost, hostMove]

/-- An offer to a ready port (30_encoding R40, R41). -/
theorem step_offer {s : State} {cw : CommandWord} {now : Time} {seed : Option Position}
    {rest : List HostMove} (hreset : s.resetIn = false) (hvalid : s.cmdValid = false)
    (hhost : s.host = .offer cw now seed :: rest) :
    step s = .next { s with
      host := rest, cmdValid := true, cw := cw, now := now, seed := seed.getD s.seed } := by
  rw [step_of_not_transfers ((transfers_eq_false_iff s).2 (.inl hvalid)), hostTurn_cons hhost]
  simp [hostMove, State.takesOffer, State.cmdReady, hreset, hvalid]

/-- An offer under RESET (70_reset R104, R105). -/
theorem step_offer_refused {s : State} {cw : CommandWord} {now : Time} {seed : Option Position}
    {rest : List HostMove} (hreset : s.resetIn = true)
    (hhost : s.host = .offer cw now seed :: rest) : step s = .refused .offerNotReady := by
  rw [step_of_not_transfers (transfers_of_resetIn hreset), hostTurn_cons hhost]
  simp [hostMove, State.takesOffer, State.cmdReady, hreset]

/-- Settles O41: with RESET low and no transfer the port is free, and under RESET it is not ready. -/
theorem offersNeedAReadyPort : Obligations.OffersNeedAReadyPort := by
  intro s cw now seed rest htransfers hhost
  refine ⟨fun hreset => ?_, fun hreset => step_offer_refused hreset hhost⟩
  have hvalid : s.cmdValid = false :=
    ((transfers_eq_false_iff s).1 htransfers).resolve_right (by simp [hreset])
  exact step_offer hreset hvalid hhost

/-! ## VALUE (30_encoding R48) -/

/-- A run of the machine begins with a step. -/
theorem run_succ_of_step {s t : State} (h : step s = .next t) (k : Nat) :
    Host.Core.run core (k + 1) s = Host.Core.run core k t := by
  simp [Host.Core.run, core, h]

/-- A command offered to the port of an idle block has run two steps later, with the levels of its
offer on the port (30_encoding R40). -/
theorem run_offered_command {s t : State} {i : Instr} {now : Time} {seed : Option Position}
    {rest : List HostMove} (hreset : s.resetIn = false) (hvalid : s.cmdValid = false)
    (hhost : s.host = .offer (encode i) now seed :: rest)
    (hexec : exec i { s with
      host := rest, cw := encode i, now := now, seed := seed.getD s.seed } = .next t) :
    Host.Core.run core 2 s = .next t := by
  rw [hvalid] at hexec
  refine (run_succ_of_step (step_offer hreset hvalid hhost) 1).trans (run_succ_of_step ?_ 0)
  refine Eq.trans (step_of_transfers ?_ (i := i) ?_) ?_
  · exact transfers_of_valid rfl hreset
  · exact decode_encode i
  · exact hexec

/-- The frame of VALUE is the shortest that passes the filter (40_debounce R51). -/
theorem accepts_valueFrame (c : ConfigRegs) :
    accepts c c.univ (c.channel.setWidth 16) = true := by
  have hle : c.channel.toNat ≤ (c.channel.setWidth 16).toNat := by
    rw [BitVec.toNat_setWidth_of_le (by decide)]
  exact (accepts_iff _ _ _).2 ⟨rfl, hle⟩

/-- The channel's address fits the nine bits of FB_WADDR (10_state R20, 20_memory R33). -/
theorem channelAddress_toNat {c : ConfigRegs} (h : c.legal = true) :
    (BitVec.ofNat 9 c.channelAddress).toNat = c.channelAddress := by
  obtain ⟨-, hchannel, -⟩ := (legal_iff c).1 h
  refine Nat.mod_eq_of_lt ?_
  unfold ConfigRegs.channelAddress
  omega

/-- A FRAME made for the channel, when its byte is known (40_debounce R50). -/
theorem exec_valueFrame {s : State} {v : Byte} (hlegal : s.cfg.legal = true)
    (hbyte : channelByte s = v) :
    exec (.frame s.cfg.univ (s.cfg.channel.setWidth 16)) s =
      .next (channelStep v s.now s.seed s) := by
  rw [exec_frame hlegal, accepts_valueFrame, hbyte, if_pos rfl]

/-- Settles O35: the write, the offer and the transfer, one step each; the byte the FRAME reads is the
one just written. -/
theorem valueIsOneProcessedFrame : Obligations.ValueIsOneProcessedFrame := by
  intro s v now seed rest hlegal hreset hvalid hhost
  have hwrite := step_writeFb ((transfers_eq_false_iff s).2 (.inl hvalid)) hhost
  rw [channelAddress_toNat hlegal] at hwrite
  have hbyte := read_write_same s.fb s.cfg.channelAddress v
  exact (run_succ_of_step hwrite 2).trans
    (run_offered_command hreset hvalid rfl (exec_valueFrame hlegal hbyte))

/-! ## ITER (30_encoding R48) -/

/-- The loop iteration an ITER with a frame stands for (43_tick_fsm R81). -/
def Iteration.ofValue (c : ConfigRegs) (x : Byte × Nat × Option Position) : Iteration where
  time := x.2.1
  frame := some (c.univ, c.channel.setWidth 16, x.2.2)
  tickSeed := none

/-- Beside the host write, the moves of ITER are the commands of its iteration. -/
theorem iterMoves_filter_isCommand (c : ConfigRegs) (x : Byte × Nat × Option Position) :
    (iterMoves c x.1 (clock x.2.1) x.2.2).filter HostMove.isCommand =
      (Iteration.ofValue c x).commands := rfl

/-- Settles O34: the iterations are those of the list, at its times. -/
theorem iterMovesKeepToTheLoopProfile : Obligations.IterMovesKeepToTheLoopProfile := by
  intro c its htimes
  refine ⟨its.map (Iteration.ofValue c), htimes.map _ fun _ _ hle => hle, ?_⟩
  rw [List.filter_flatMap, List.flatMap_map]
  simp only [iterMoves_filter_isCommand]

/-! ## Lines of text (30_encoding R47, R48) -/

/-- Settles O49: the five lines, read. -/
theorem assembledLines : Obligations.AssembledLines := by
  unfold Obligations.AssembledLines
  decide

end Sys2Proof.Machine
end

section
/-!
SUPPORT. A processed FRAME: the filter (40_debounce R51), one equation for each outcome of the channel
step (R52, R53), and what a stopped block does to the sink (R55, 43_tick_fsm R82).
-/

namespace Sys2Proof.Machine

/-- Below the threshold a zero frame is counted (40_debounce R52). -/
theorem zeroFrame_of_below {s : State} (hbelow : s.zeroStreak.toNat + 1 < s.cfg.threshold.toNat) :
    zeroFrame s = { s with zeroStreak := s.zeroStreak + 1 } := by
  rcases zeroFrame_cases s with ⟨-, he⟩ | ⟨hreached, -⟩ | ⟨hreached, -⟩
  · exact he
  · exact absurd hreached hbelow.not_ge
  · exact absurd hreached hbelow.not_ge

/-- At the threshold a running block stops (40_debounce R52, R55). -/
theorem zeroFrame_of_reached_running {s : State}
    (hreached : s.cfg.threshold.toNat ≤ s.zeroStreak.toNat + 1) (hrunning : s.running = true) :
    zeroFrame s = { stop s with zeroStreak := 0 } := by
  rcases zeroFrame_cases s with ⟨hbelow, -⟩ | ⟨-, -, he⟩ | ⟨-, hstopped, -⟩
  · exact absurd hreached hbelow.not_ge
  · exact he
  · simp [hrunning] at hstopped

/-- At the threshold a stopped block clears its count (40_debounce R52). -/
theorem zeroFrame_of_reached_stopped {s : State}
    (hreached : s.cfg.threshold.toNat ≤ s.zeroStreak.toNat + 1) (hstopped : s.running = false) :
    zeroFrame s = { s with zeroStreak := 0 } := by
  rcases zeroFrame_cases s with ⟨hbelow, -⟩ | ⟨-, hrunning, -⟩ | ⟨-, -, he⟩
  · exact absurd hreached hbelow.not_ge
  · simp [hstopped] at hrunning
  · exact he

section Processed

variable {univ length : Half} {s : State} (hlegal : s.cfg.legal = true)
  (haccepts : accepts s.cfg univ length = true)
include hlegal haccepts

/-- A frame that passes the filter takes the channel step (40_debounce R50, R51). -/
theorem exec_frame_of_accepts :
    exec (.frame univ length) s = .next (channelStep (channelByte s) s.now s.seed s) := by
  rw [exec_frame hlegal, if_pos haccepts]

/-- A processed frame with the channel byte 0 takes the zero path (40_debounce R52). -/
theorem exec_frame_of_zero (hbyte : channelByte s = 0) :
    exec (.frame univ length) s = .next (zeroFrame { s with lastFrameTime := s.now }) := by
  rw [exec_frame_of_accepts hlegal haccepts, channelStep, if_pos hbyte]

/-- A processed frame with another channel byte takes the nonzero path (40_debounce R53). -/
theorem exec_frame_of_nonzero (hbyte : channelByte s ≠ 0) :
    exec (.frame univ length) s =
      .next (nonzeroFrame (channelByte s) s.now s.seed { s with lastFrameTime := s.now }) := by
  rw [exec_frame_of_accepts hlegal haccepts, channelStep, if_neg hbyte]

/-- A processed zero frame below the threshold, in full (40_debounce R52). -/
theorem exec_frame_counts (hbyte : channelByte s = 0)
    (hbelow : s.zeroStreak.toNat + 1 < s.cfg.threshold.toNat) :
    exec (.frame univ length) s =
      .next { s with lastFrameTime := s.now, zeroStreak := s.zeroStreak + 1 } :=
  (exec_frame_of_zero hlegal haccepts hbyte).trans (congrArg _ (zeroFrame_of_below hbelow))

/-- The processed zero frame that stops a running block, in full (40_debounce R52, R55). -/
theorem exec_frame_stops (hbyte : channelByte s = 0)
    (hreached : s.cfg.threshold.toNat ≤ s.zeroStreak.toNat + 1) (hrunning : s.running = true) :
    exec (.frame univ length) s =
      .next { stop s with lastFrameTime := s.now, zeroStreak := 0 } :=
  (exec_frame_of_zero hlegal haccepts hbyte).trans
    (congrArg _ (zeroFrame_of_reached_running hreached hrunning))

end Processed

/-- Settles O12: the filter is its two conditions, and the channel byte is at CFG.channel - 1. -/
theorem frameFilterDropsOrProcesses : Obligations.FrameFilterDropsOrProcesses := by
  intro univ length s hlegal
  rw [← accepts_iff]
  refine ⟨exec_frame_of_accepts hlegal, fun hdropped => ?_⟩
  rw [exec_frame hlegal, if_neg hdropped]

/-- Settles O13: one equation of the channel step for each clause. -/
theorem zeroFrameCountsOrStops : Obligations.ZeroFrameCountsOrStops := by
  intro univ length s v hlegal huniv hlength hbyte
  have haccepts : accepts s.cfg univ length = true := (accepts_iff _ _ _).2 ⟨huniv, hlength⟩
  subst hbyte
  refine ⟨exec_frame_counts hlegal haccepts, exec_frame_stops hlegal haccepts,
    fun hzero hreached hstopped => ?_, exec_frame_of_nonzero hlegal haccepts⟩
  exact (exec_frame_of_zero hlegal haccepts hzero).trans
    (congrArg _ (zeroFrame_of_reached_stopped hreached hstopped))

/-- Settles O14: the nonzero path starts a stopped block and only sets the level of a running one. -/
theorem nonzeroFrameSetsLevelOrStarts : Obligations.NonzeroFrameSetsLevelOrStarts := by
  intro univ length s v hlegal huniv hlength hbyte hnonzero
  have haccepts : accepts s.cfg univ length = true := (accepts_iff _ _ _).2 ⟨huniv, hlength⟩
  subst hbyte
  rw [exec_frame_of_nonzero hlegal haccepts hnonzero]
  rcases nonzeroFrame_cases (channelByte s) s.now s.seed { s with lastFrameTime := s.now } with
    ⟨hrunning, he⟩ | ⟨hstopped, he⟩ <;> rw [he]
  · exact ⟨fun _ => rfl, fun hstopped => absurd (hrunning.symm.trans hstopped) nofun⟩
  · exact ⟨fun hrunning => absurd (hstopped.symm.trans hrunning) nofun, fun _ => rfl⟩

/-- Neither phase of TICK is due in a stopped block (41_watchdog R60, 42_sampler R66). -/
theorem exec_tick_of_stopped {s t : State} (hstopped : s.running = false)
    (h : exec .tick s = .next t) : t = s := by
  obtain ⟨-, ⟨hdue, -⟩ | ⟨-, -, ht⟩ | ⟨-, hdue, -⟩⟩ := exec_tick_cases h
  · simp [watchdogDue, hstopped] at hdue
  · exact ht
  · simp [sampleDue, hstopped] at hdue

/-- Settles O44: a FRAME touches the duty and the sink only in the stop of a running block, and a TICK
of a stopped block does nothing. -/
theorem commandsOfAStoppedBlockMakeNoSinkCall :
    Obligations.CommandsOfAStoppedBlockMakeNoSinkCall := by
  intro i s t hstopped h
  cases i with
  | frame univ length =>
    rcases exec_frame_keeps_duty_or_stops h with ⟨hduty, hdutyOut, hout⟩ | ⟨hrunning, -⟩
    · exact ⟨hout, hdutyOut, exec_frame_dirOut h, hduty⟩
    · exact absurd (hstopped.symm.trans hrunning) nofun
  | tick =>
    obtain rfl := exec_tick_of_stopped hstopped h
    exact ⟨rfl, rfl, rfl, rfl⟩

end Sys2Proof.Machine
end

section
/-!
SUPPORT. A run of processed zero frames in a running block: below the threshold each one is counted,
whatever its time and draw, and the one that reaches the threshold stops the block (40_debounce R57).
-/

namespace Sys2Proof.Machine

/-- A running block for which every frame with this word is processed as a zero frame (40_debounce
R51, R52). -/
structure RunsOnZeros (univ length : Half) (s : State) : Prop where
  legal : s.cfg.legal = true
  accepts : accepts s.cfg univ length = true
  byte : channelByte s = 0
  running : s.running = true

/-- From `s` to `t`, `n` zero frames were counted and nothing else of the block was touched but the
time it records (40_debounce R52). -/
structure ZerosCounted (n : Nat) (s t : State) : Prop where
  zeroStreak : t.zeroStreak.toNat = s.zeroStreak.toNat + n
  running : t.running = s.running
  level : t.level = s.level
  currentDuty : t.currentDuty = s.currentDuty
  out : t.out = s.out
  cfg : t.cfg = s.cfg
  fb : t.fb = s.fb

theorem ZerosCounted.refl (s : State) : ZerosCounted 0 s s := ⟨rfl, rfl, rfl, rfl, rfl, rfl, rfl⟩

theorem ZerosCounted.trans {m n : Nat} {s t u : State} (h : ZerosCounted m s t)
    (h' : ZerosCounted n t u) : ZerosCounted (m + n) s u where
  zeroStreak := by rw [h'.zeroStreak, h.zeroStreak, Nat.add_assoc]
  running := h'.running.trans h.running
  level := h'.level.trans h.level
  currentDuty := h'.currentDuty.trans h.currentDuty
  out := h'.out.trans h.out
  cfg := h'.cfg.trans h.cfg
  fb := h'.fb.trans h.fb

/-- Counting keeps all that makes the next frame a processed zero frame. -/
theorem RunsOnZeros.of_counted {univ length : Half} {n : Nat} {s t : State}
    (h : RunsOnZeros univ length s) (hcounted : ZerosCounted n s t) : RunsOnZeros univ length t where
  legal := by rw [hcounted.cfg, h.legal]
  accepts := by rw [hcounted.cfg, h.accepts]
  byte := by rw [channelByte, hcounted.fb, hcounted.cfg]; exact h.byte
  running := by rw [hcounted.running, h.running]

/-- A count below the threshold does not wrap (10_state R15). -/
theorem zeroStreak_add_one_toNat {s : State}
    (hbelow : s.zeroStreak.toNat + 1 < s.cfg.threshold.toNat) :
    (s.zeroStreak + 1).toNat = s.zeroStreak.toNat + 1 :=
  BitVec.toNat_add_of_lt (hbelow.trans s.cfg.threshold.isLt)

/-- One zero frame below the threshold (40_debounce R52). -/
theorem RunsOnZeros.exec_counts {univ length : Half} {s : State} (h : RunsOnZeros univ length s)
    (hbelow : s.zeroStreak.toNat + 1 < s.cfg.threshold.toNat) (now : Time) (seed : Position) :
    ∃ t, exec (.frame univ length) { s with now := now, seed := seed } = .next t ∧
      ZerosCounted 1 s t :=
  ⟨_, exec_frame_counts h.legal h.accepts h.byte hbelow,
    ⟨zeroStreak_add_one_toNat hbelow, rfl, rfl, rfl, rfl, rfl, rfl⟩⟩

/-- The zero frame that reaches the threshold (40_debounce R52, R55). -/
theorem RunsOnZeros.exec_stops {univ length : Half} {s : State} (h : RunsOnZeros univ length s)
    (hreached : s.cfg.threshold.toNat ≤ s.zeroStreak.toNat + 1) (now : Time) (seed : Position) :
    ∃ t, exec (.frame univ length) { s with now := now, seed := seed } = .next t ∧
      t.running = false ∧ t.level = 0 ∧ t.currentDuty = 0 ∧ t.out = s.out ++ [.duty 0] ∧
      t.zeroStreak = 0 :=
  ⟨_, exec_frame_stops h.legal h.accepts h.byte hreached h.running, rfl, rfl, rfl, rfl, rfl⟩

/-- A frame that answers a next state hands it to the frames after it. -/
theorem frames_cons {univ length : Half} {now : Time} {seed : Position}
    {rest : List (Time × Position)} {s t : State}
    (h : exec (.frame univ length) { s with now := now, seed := seed } = .next t) :
    frames univ length ((now, seed) :: rest) s = frames univ length rest t := by
  rw [frames, h]

/-- A feed is run one part after the other. -/
theorem frames_append {univ length : Half} {feed rest : List (Time × Position)} {s t : State}
    (h : frames univ length feed s = .next t) :
    frames univ length (feed ++ rest) s = frames univ length rest t := by
  induction feed generalizing s with
  | nil =>
    obtain rfl : s = t := Host.Outcome.next.inj h
    rfl
  | cons x feed ih =>
    rw [frames] at h
    split at h
    · next u hu => exact (frames_cons hu).trans (ih h)
    · cases h
    · cases h

/-- A feed that stays below the threshold is counted whole (40_debounce R57, item 2). -/
theorem RunsOnZeros.frames_count {univ length : Half} {feed : List (Time × Position)} {s : State}
    (h : RunsOnZeros univ length s)
    (hbelow : s.zeroStreak.toNat + feed.length < s.cfg.threshold.toNat) :
    ∃ t, frames univ length feed s = .next t ∧ ZerosCounted feed.length s t := by
  induction feed generalizing s with
  | nil => exact ⟨s, rfl, .refl s⟩
  | cons x feed ih =>
    rw [List.length_cons] at hbelow ⊢
    obtain ⟨u, hexec, hone⟩ := h.exec_counts (by omega) x.1 x.2
    have hbelow' : u.zeroStreak.toNat + feed.length < u.cfg.threshold.toNat := by
      rw [hone.zeroStreak, hone.cfg]
      omega
    obtain ⟨t, hframes, hrest⟩ := ih (h.of_counted hone) hbelow'
    exact ⟨t, (frames_cons hexec).trans hframes, Nat.add_comm 1 feed.length ▸ hone.trans hrest⟩

/-- A feed whose last frame reaches the threshold, and no earlier one, stops the block with it
(40_debounce R57, item 3). -/
theorem RunsOnZeros.frames_stop {univ length : Half} {feed : List (Time × Position)}
    {last : Time × Position} {s : State} (h : RunsOnZeros univ length s)
    (hreached : s.zeroStreak.toNat + feed.length + 1 = s.cfg.threshold.toNat) :
    ∃ t, frames univ length (feed ++ [last]) s = .next t ∧ t.running = false ∧ t.level = 0 ∧
      t.currentDuty = 0 ∧ t.out = s.out ++ [.duty 0] ∧ t.zeroStreak = 0 := by
  obtain ⟨u, hframes, hcounted⟩ := h.frames_count (feed := feed) (by omega)
  have hreached' : u.cfg.threshold.toNat ≤ u.zeroStreak.toNat + 1 := by
    rw [hcounted.zeroStreak, hcounted.cfg]
    exact hreached.ge
  obtain ⟨t, hexec, hstop⟩ := (h.of_counted hcounted).exec_stops hreached' last.1 last.2
  rw [hcounted.out] at hstop
  exact ⟨t, (frames_append hframes).trans (frames_cons hexec), hstop⟩

/-- Settles O16: the frames before the threshold-th are counted, by induction on the feed, and the
last one of a feed as long as the threshold finds the count one short of it. -/
theorem zeroRunStopsExactlyAtTheThreshold : Obligations.ZeroRunStopsExactlyAtTheThreshold := by
  intro univ length feed s hlegal huniv hlength hbyte hrunning hstreak
  have h : RunsOnZeros univ length s :=
    ⟨hlegal, (accepts_iff _ _ _).2 ⟨huniv, hlength⟩, hbyte, hrunning⟩
  have hzero : s.zeroStreak.toNat = 0 := by rw [hstreak]; rfl
  refine ⟨fun hbelow => ?_, fun hreached => ?_⟩
  · obtain ⟨t, hframes, hcounted⟩ := h.frames_count (feed := feed) (by omega)
    exact ⟨t, hframes, hcounted.running.trans hrunning, hcounted.level, hcounted.currentDuty,
      hcounted.out, by rw [hcounted.zeroStreak, hzero, Nat.zero_add]⟩
  · rcases feed.eq_nil_or_concat' with rfl | ⟨init, last, rfl⟩
    · exact absurd hreached (threshold_pos_of_legal hlegal).ne
    · rw [List.length_append, List.length_singleton] at hreached
      exact h.frames_stop (by omega)

end Sys2Proof.Machine
end

section
/-!
SUPPORT. The watchdog phase at its condition and away from it (41_watchdog R60), and a TICK whose
watchdog fires: it hands the sampler a stopped block, in which no sample is due (42_sampler R66).
-/

namespace Sys2Proof.Machine

/-- At its condition the watchdog stops the block and clears the zero count (41_watchdog R60). -/
theorem watchdog_of_due {now : Time} {s : State} (hdue : watchdogDue now s = true) :
    watchdog now s = { stop s with zeroStreak := 0 } :=
  if_pos hdue

/-- Away from its condition the watchdog does nothing (41_watchdog R60). -/
theorem watchdog_of_not_due {now : Time} {s : State} (hidle : ¬ watchdogDue now s = true) :
    watchdog now s = s :=
  if_neg hidle

/-- Settles O19: the two clauses are the watchdog's condition in numbers and its negation. -/
theorem watchdogFiresExactlyAtItsCondition : Obligations.WatchdogFiresExactlyAtItsCondition := by
  intro now s
  refine ⟨fun hrunning helapsed => ?_, fun hnot => ?_⟩
  · exact watchdog_of_due ((watchdogDue_iff now s).2 ⟨hrunning, helapsed⟩)
  · refine watchdog_of_not_due fun hdue => ?_
    obtain ⟨hrunning, helapsed⟩ := (watchdogDue_iff now s).1 hdue
    rcases hnot with hstopped | hearly
    · exact absurd (hrunning.symm.trans hstopped) nofun
    · exact absurd helapsed hearly.not_ge

/-- No sample is taken of a stopped block (42_sampler R66). -/
theorem sample_of_stopped {s : State} (hstopped : s.running = false) (now : Time) :
    sample now s = s := by
  rcases sampleWith_cases Config.noise now s with ⟨hdue, -⟩ | ⟨-, he⟩
  · exact absurd (((sampleDue_iff now s).1 hdue).1.symm.trans hstopped) nofun
  · exact he

/-- A TICK whose watchdog fires is the watchdog's stop, and the sampler adds nothing to it
(41_watchdog R61, 43_tick_fsm R80). -/
theorem exec_tick_of_watchdogDue {s : State} (hlegal : s.cfg.legal = true)
    (hdue : watchdogDue s.now s = true) :
    exec .tick s = .next { stop s with zeroStreak := 0 } :=
  calc exec .tick s
      = .next (sample s.now (watchdog s.now s)) := exec_tick hlegal
    _ = .next (sample s.now { stop s with zeroStreak := 0 }) := by rw [watchdog_of_due hdue]
    _ = .next { stop s with zeroStreak := 0 } := congrArg _ (sample_of_stopped rfl s.now)

/-- Settles O18: the watchdog's stop leaves the sampler of the same TICK a stopped block. -/
theorem tickAtTheTimeoutStopsWithoutASample :
    Obligations.TickAtTheTimeoutStopsWithoutASample := by
  intro s hlegal hrunning helapsed
  exact exec_tick_of_watchdogDue hlegal ((watchdogDue_iff s.now s).2 ⟨hrunning, helapsed⟩)

end Sys2Proof.Machine
end

section
/-!
SUPPORT. The sampler phase at its condition and away from it, for any noise source (42_sampler R65 to
R68), and a TICK whose watchdog does not fire: it is the sampler phase alone (43_tick_fsm R80).
-/

namespace Sys2Proof.Machine

/-- At its condition the sampler emits the duty computed with the noise at the advanced position
(42_sampler R66 to R75). -/
theorem sampleWith_of_due {now : Time} {s : State} (noise : Position → Byte)
    (hdue : sampleDue now s = true) :
    sampleWith noise now s =
      emit (nextDuty s.cfg s.level (noise (s.position + s.cfg.noiseStep)) s.currentDuty)
        (advance now s) :=
  if_pos hdue

/-- The registers and the trace after a sample (42_sampler R66, R67, R74, R75). -/
theorem emit_advance (duty : Byte) (now : Time) (s : State) :
    emit duty (advance now s) =
      { s with
        lastSampleTime := now, position := s.position + s.cfg.noiseStep, currentDuty := duty,
        dutyOut := duty, dirOut := s.cfg.dirLevel,
        out := s.out ++ [.duty duty, .dir s.cfg.dirLevel] } := by
  simp [emit, advance, sinkDir, sinkDuty]

/-- Away from its condition the sampler does nothing, and asks no noise (42_sampler R79). -/
theorem sampleWith_of_not_due {now : Time} {s : State} (noise : Position → Byte)
    (hidle : ¬ sampleDue now s = true) : sampleWith noise now s = s :=
  if_neg hidle

/-- A TICK in which the watchdog does not fire is the sampler phase (43_tick_fsm R80). -/
theorem exec_tick_of_not_watchdogDue {s : State} (hlegal : s.cfg.legal = true)
    (hidle : ¬ watchdogDue s.now s = true) : exec .tick s = .next (sample s.now s) := by
  rw [exec_tick hlegal, watchdog_of_not_due hidle]

/-- Settles O21: the watchdog leaves the sampler the state as it is, and the two clauses are the
sampler's condition in numbers and its negation. -/
theorem tickTakesTheSampleOfTheSixSteps : Obligations.TickTakesTheSampleOfTheSixSteps := by
  intro s hlegal hquiet
  have hidle : ¬ watchdogDue s.now s = true := fun hdue => by
    obtain ⟨hrunning, helapsed⟩ := (watchdogDue_iff s.now s).1 hdue
    exact (hquiet hrunning).not_ge helapsed
  rw [exec_tick_of_not_watchdogDue hlegal hidle]
  refine ⟨fun hnot => ?_, fun hrunning helapsed => ⟨_, .refl _, ?_⟩⟩
  · refine congrArg _ (sampleWith_of_not_due _ fun hdue => ?_)
    obtain ⟨hrunning, helapsed⟩ := (sampleDue_iff s.now s).1 hdue
    rcases hnot with hstopped | hearly
    · exact absurd (hrunning.symm.trans hstopped) nofun
    · exact hearly.not_ge helapsed
  · have hdue : sampleDue s.now s = true := (sampleDue_iff s.now s).2 ⟨hrunning, helapsed⟩
    exact congrArg _ ((sampleWith_of_due _ hdue).trans (emit_advance _ _ _))

/-- Settles O25: a sample that is taken contains the noise source once, at the advanced position. -/
theorem samplerAsksTheNoiseAtTheAdvancedPositionOnly :
    Obligations.SamplerAsksTheNoiseAtTheAdvancedPositionOnly := by
  intro p q now s hagree
  by_cases hdue : sampleDue now s = true
  · obtain ⟨hrunning, helapsed⟩ := (sampleDue_iff now s).1 hdue
    rw [sampleWith_of_due p hdue, sampleWith_of_due q hdue, hagree hrunning helapsed]
  · rw [sampleWith_of_not_due p hdue, sampleWith_of_not_due q hdue]

/-- Settles O22: TICK completes under a legal configuration, and neither of its phases is due. -/
theorem tickOfAStoppedBlockDoesNothing : Obligations.TickOfAStoppedBlockDoesNothing := by
  intro s hlegal hstopped
  have hsame : sample s.now (watchdog s.now s) = s :=
    exec_tick_of_stopped hstopped (exec_tick hlegal)
  rw [exec_tick hlegal, hsame]

end Sys2Proof.Machine
end

section
/-!
SUPPORT. The arithmetic of the sampler (42_sampler R70 to R77): rounding and its invariance under a
common factor, and the one-pole filter as a rounded weighted mean.
-/

namespace Sys2Proof.Machine

/-- Rounding is at most one half above the quotient (42_sampler R70). -/
theorem two_mul_rhu_le (a b : Nat) : 2 * (b * rhu a b) ≤ 2 * a + b := by
  rw [← Nat.mul_assoc]
  exact Nat.mul_div_le (2 * a + b) (2 * b)

/-- Rounding is less than one half below the quotient, so a tie goes upward (42_sampler R70). -/
theorem lt_two_mul_rhu_add (a : Nat) {b : Nat} (hb : 0 < b) : 2 * a < 2 * (b * rhu a b) + b := by
  have hlt : 2 * a + b < 2 * b * rhu a b + 2 * b :=
    Nat.lt_mul_div_succ (2 * a + b) (Nat.mul_pos two_pos hb)
  rw [Nat.mul_assoc] at hlt
  omega

/-- Rounding sees the quotient only: a common factor cancels (42_sampler R70). -/
theorem rhu_mul_left {k : Nat} (hk : 0 < k) (a b : Nat) : rhu (k * a) (k * b) = rhu a b := by
  have hnum : 2 * (k * a) + k * b = k * (2 * a + b) := by ring
  have hden : 2 * (k * b) = k * (2 * b) := by ring
  rw [rhu, hnum, hden, Nat.mul_div_mul_left _ _ hk, rhu]

/-- Settles O27: the bounds of a division with remainder; a tie with the divisor 255 would make an
even number odd. -/
theorem roundingIsToNearestTiesUpward : Obligations.RoundingIsToNearestTiesUpward := by
  refine ⟨fun a b hb => ⟨two_mul_rhu_le a b, lt_two_mul_rhu_add a hb⟩, fun a htie => ?_⟩
  omega

/-- Settles O28: the two scenarios, computed. -/
theorem scenarioArithmetic : Obligations.ScenarioArithmetic := by
  unfold Obligations.ScenarioArithmetic
  decide

/-- Settles O29: both are products with a byte, divided by 255. -/
theorem amplitudeAndTargetKeepTheirCeilings : Obligations.AmplitudeAndTargetKeepTheirCeilings :=
  fun level maxAmplitude n => ⟨effAmp_le level maxAmplitude, targetDuty_le n _⟩

/-- The filter's weights add up to its denominator, so its output is at least the smaller of the two
values it mixes (42_sampler R77). -/
theorem min_le_smooth {c : ConfigRegs} (h : c.legal = true) (target duty : Nat) :
    min target duty ≤ smooth c target duty := by
  obtain ⟨-, -, -, -, hlt, hden⟩ := (legal_iff c).1 h
  refine le_rhu (by omega) ?_
  calc min target duty * c.alphaDen.toNat
      = c.alphaNum.toNat * min target duty
          + (c.alphaDen.toNat - c.alphaNum.toNat) * min target duty := by
        rw [← Nat.add_mul, Nat.add_sub_cancel' hlt.le, Nat.mul_comm]
    _ ≤ c.alphaNum.toNat * target + (c.alphaDen.toNat - c.alphaNum.toNat) * duty := by
        gcongr <;> simp

/-- Settles O30: the two bounds of the weighted mean. -/
theorem smoothingDoesNotOvershoot : Obligations.SmoothingDoesNotOvershoot :=
  fun _ target duty hlegal => ⟨min_le_smooth hlegal target duty, smooth_le_max hlegal target duty⟩

/-- Settles O31: both filters are one rounded quotient over the product of the two denominators. -/
theorem smoothingDependsOnTheRatioOnly : Obligations.SmoothingDependsOnTheRatioOnly := by
  intro c d target duty hc hd hratio
  obtain ⟨-, -, -, -, -, hcden⟩ := (legal_iff c).1 hc
  obtain ⟨-, -, -, -, -, hdden⟩ := (legal_iff d).1 hd
  have hweight : d.alphaDen.toNat * (c.alphaDen.toNat - c.alphaNum.toNat) =
      c.alphaDen.toNat * (d.alphaDen.toNat - d.alphaNum.toNat) := by
    rw [Nat.mul_sub, Nat.mul_sub, Nat.mul_comm _ c.alphaNum.toNat, hratio,
      Nat.mul_comm d.alphaNum.toNat, Nat.mul_comm d.alphaDen.toNat]
  have hmix : d.alphaDen.toNat *
        (c.alphaNum.toNat * target + (c.alphaDen.toNat - c.alphaNum.toNat) * duty) =
      c.alphaDen.toNat *
        (d.alphaNum.toNat * target + (d.alphaDen.toNat - d.alphaNum.toNat) * duty) := by
    linear_combination target * hratio + duty * hweight
  calc smooth c target duty
      = rhu (d.alphaDen.toNat *
          (c.alphaNum.toNat * target + (c.alphaDen.toNat - c.alphaNum.toNat) * duty))
          (d.alphaDen.toNat * c.alphaDen.toNat) := (rhu_mul_left (by omega) _ _).symm
    _ = rhu (c.alphaDen.toNat *
          (d.alphaNum.toNat * target + (d.alphaDen.toNat - d.alphaNum.toNat) * duty))
          (c.alphaDen.toNat * d.alphaDen.toNat) := by
        rw [hmix, Nat.mul_comm d.alphaDen.toNat c.alphaDen.toNat]
    _ = smooth d target duty := rhu_mul_left (by omega) _ _

/-- Settles O32: the filter stays below the larger of ceiling and previous duty, which are bytes. -/
theorem sampledDutyNeedsNoClamp : Obligations.SampledDutyNeedsNoClamp :=
  fun _ level n duty hlegal => ⟨nextDuty_toNat hlegal level n duty, nextDuty_le hlegal level n duty⟩

end Sys2Proof.Machine
end

section
/-!
SUPPORT. The run/stop state machine: which commands and which host moves start or stop the block
(43_tick_fsm R82, R83), and the TICK that follows a processed FRAME at the same `now` (R81).
-/

namespace Sys2Proof.Machine

/-! ## The transitions (43_tick_fsm R82, R83) -/

/-- A FRAME starts the block on a processed nonzero byte, and stops it on the processed zero byte that
reaches the threshold (40_debounce R52, R53). -/
theorem exec_frame_running {univ length : Half} {s t : State}
    (h : exec (.frame univ length) s = .next t) :
    t.running = s.running ∨
    (t.running = true ∧ accepts s.cfg univ length = true ∧ channelByte s ≠ 0) ∨
    (t.running = false ∧ accepts s.cfg univ length = true ∧ channelByte s = 0 ∧
      s.cfg.threshold.toNat ≤ s.zeroStreak.toNat + 1) := by
  obtain ⟨-, hcases⟩ := exec_frame_cases h
  rcases hcases with ⟨-, rfl⟩ | ⟨-, -, -, rfl⟩ | ⟨haccepts, hzero, hreached, -, rfl⟩ |
    ⟨-, -, -, -, rfl⟩ | ⟨-, -, -, rfl⟩ | ⟨haccepts, hnonzero, -, rfl⟩
  · exact .inl rfl
  · exact .inl rfl
  · exact .inr (.inr ⟨rfl, haccepts, hzero, hreached⟩)
  · exact .inl rfl
  · exact .inl rfl
  · exact .inr (.inl ⟨rfl, haccepts, hnonzero⟩)

/-- A TICK never starts the block, and stops it only when the timeout has elapsed (41_watchdog R60). -/
theorem exec_tick_running {s t : State} (h : exec .tick s = .next t) :
    t.running = s.running ∨
    (t.running = false ∧ s.cfg.timeout.toNat ≤ elapsed s.now s.lastFrameTime) := by
  obtain ⟨-, ⟨hdue, rfl⟩ | ⟨-, -, rfl⟩ | ⟨-, -, rfl⟩⟩ := exec_tick_cases h
  · exact .inr ⟨rfl, ((watchdogDue_iff s.now s).1 hdue).2⟩
  · exact .inl rfl
  · exact .inl rfl

/-- No move of the host starts the block, and only a RESET stops it (70_reset R100, R102). -/
theorem hostTurn_running {s t : State} (h : hostTurn s = .next t) :
    t.running = s.running ∨
    (t.running = false ∧ ∃ m rest, s.host = m :: rest ∧ (m = .assertReset ∨ m = .releaseReset)) := by
  rcases hostTurn_next h with ⟨-, rfl⟩ | ⟨m, rest, hhost, hmove⟩
  · exact .inl rfl
  · rcases hostMove_next hmove with ⟨addr, data, -, rfl⟩ | ⟨cw, now, seed, -, -, -, rfl⟩ |
      ⟨c, -, rfl⟩ | ⟨hm, rfl⟩ | ⟨hm, -, -, rfl⟩ | ⟨-, -, rfl⟩
    · exact .inl rfl
    · exact .inl rfl
    · exact .inl rfl
    · exact .inr ⟨rfl, m, rest, hhost, .inl hm⟩
    · exact .inr ⟨rfl, m, rest, hhost, .inr hm⟩
    · exact .inl rfl

/-- Settles O42: a step is a FRAME, a TICK or the host's turn, and each names the transitions it can
make. -/
theorem onlyTheseEventsStartOrStop : Obligations.OnlyTheseEventsStartOrStop := by
  intro s t hstep
  rcases step_next hstep with ⟨i, htransfers, hdecode, hexec⟩ | ⟨htransfers, hturn⟩
  · cases i with
    | frame univ length =>
      rcases exec_frame_running hexec with hsame | ⟨hruns, haccepts, hnonzero⟩ |
        ⟨hstops, haccepts, hzero, hreached⟩
      · simp +contextual [hsame]
      · obtain ⟨huniv, hlength⟩ := (accepts_iff s.cfg univ length).1 haccepts
        exact ⟨fun _ _ => ⟨univ, length, htransfers, hdecode, huniv, hlength, hnonzero⟩,
          by simp [hruns]⟩
      · obtain ⟨huniv, hlength⟩ := (accepts_iff s.cfg univ length).1 haccepts
        exact ⟨by simp [hstops], fun _ _ =>
          .inl ⟨univ, length, htransfers, hdecode, huniv, hlength, hzero, hreached⟩⟩
    | tick =>
      rcases exec_tick_running hexec with hsame | ⟨hstops, helapsed⟩
      · simp +contextual [hsame]
      · exact ⟨by simp [hstops], fun _ _ => .inr (.inl ⟨htransfers, hdecode, helapsed⟩)⟩
  · rcases hostTurn_running hturn with hsame | ⟨hstops, hreset⟩
    · simp +contextual [hsame]
    · exact ⟨by simp [hstops], fun _ _ => .inr (.inr ⟨htransfers, hreset⟩)⟩

/-! ## The TICK of an iteration (43_tick_fsm R81) -/

/-- No time has elapsed since `now` itself (00_scope R7). -/
@[simp] theorem tdiff_self (now : Time) : tdiff now now = 0 := BitVec.sub_self now

/-- A timeout that is not 0 has not elapsed at the time of the last processed frame (41_watchdog
R60). -/
theorem not_watchdogDue_of_lastFrameTime {s : State} (htime : s.lastFrameTime = s.now)
    (htimeout : s.cfg.timeout ≠ 0) : ¬ watchdogDue s.now s = true := by
  simpa [watchdogDue, htime] using fun _ => htimeout

/-- A period that is not 0 has not elapsed at the time of the start or of the last sample (42_sampler
R66). -/
theorem not_sampleDue_of_lastSampleTime {s : State} (htime : s.lastSampleTime = s.now)
    (hperiod : s.cfg.samplePeriod ≠ 0) : ¬ sampleDue s.now s = true := by
  simpa [sampleDue, htime] using fun _ => hperiod

/-- A sample neither starts nor stops the block and keeps its level (42_sampler R65). -/
theorem sample_running_level (now : Time) (s : State) :
    (sample now s).running = s.running ∧ (sample now s).level = s.level := by
  rcases sampleWith_cases Config.noise now s with ⟨-, he⟩ | ⟨-, he⟩ <;> simp [sample, he]

/-- A processed frame records its time, whatever its byte (40_debounce R52, R53). -/
theorem exec_frame_lastFrameTime {univ length : Half} {s t : State}
    (haccepts : accepts s.cfg univ length = true)
    (hframe : exec (.frame univ length) s = .next t) : t.lastFrameTime = s.now := by
  obtain ⟨-, hcases⟩ := exec_frame_cases hframe
  rcases hcases with ⟨hdropped, -⟩ | ⟨-, -, -, rfl⟩ | ⟨-, -, -, -, rfl⟩ | ⟨-, -, -, -, rfl⟩ |
    ⟨-, -, -, rfl⟩ | ⟨-, -, -, rfl⟩
  · exact absurd (haccepts.symm.trans hdropped) nofun
  all_goals rfl

/-- A FRAME that starts the block sets the sample clock to its own time (40_debounce R54). -/
theorem exec_frame_lastSampleTime_of_start {univ length : Half} {s t : State}
    (hframe : exec (.frame univ length) s = .next t) (hstopped : s.running = false)
    (hruns : t.running = true) : t.lastSampleTime = s.now := by
  obtain ⟨-, hcases⟩ := exec_frame_cases hframe
  rcases hcases with ⟨-, rfl⟩ | ⟨-, -, -, rfl⟩ | ⟨-, -, -, -, rfl⟩ | ⟨-, -, -, -, rfl⟩ |
    ⟨-, -, -, rfl⟩ | ⟨-, -, -, rfl⟩
  · exact absurd (hstopped.symm.trans hruns) nofun
  · exact absurd (hstopped.symm.trans hruns) nofun
  · exact absurd hruns nofun
  · exact absurd (hstopped.symm.trans hruns) nofun
  · exact absurd (hstopped.symm.trans hruns) nofun
  · rfl

/-- Settles O33: the frame has just written the time the watchdog looks at, and a start the sample
clock too, while a block left stopped is not sampled at all. -/
theorem frameQuietsTheTickOfItsIteration : Obligations.FrameQuietsTheTickOfItsIteration := by
  intro univ length s t hlegal huniv hlength htimeout hframe
  have hsame := exec_sameSurroundings hframe
  have htime : t.lastFrameTime = t.now :=
    (exec_frame_lastFrameTime ((accepts_iff _ _ _).2 ⟨huniv, hlength⟩) hframe).trans hsame.now.symm
  have hquiet : ¬ watchdogDue t.now t = true :=
    not_watchdogDue_of_lastFrameTime htime (hsame.cfg ▸ htimeout)
  obtain ⟨hrunning, hlevel⟩ := sample_running_level t.now t
  refine ⟨_, exec_tick_of_not_watchdogDue (hsame.cfg ▸ hlegal) hquiet, hrunning, hlevel,
    fun hstopped hperiod => ?_⟩
  cases hruns : t.running with
  | false => exact sample_of_stopped hruns t.now
  | true =>
    have hclock : t.lastSampleTime = t.now :=
      (exec_frame_lastSampleTime_of_start hframe hstopped hruns).trans hsame.now.symm
    exact sampleWith_of_not_due _ (not_sampleDue_of_lastSampleTime hclock (hsame.cfg ▸ hperiod))

end Sys2Proof.Machine
end

section
/-!
SUPPORT. Every command has a result (60_exceptions R90).
-/

namespace Sys2Proof.Machine

/-- Settles O9: each command has its equation under a legal configuration, whose right side is a next
state. -/
theorem everyCommandCompletes : Obligations.EveryCommandCompletes := by
  intro i s hlegal
  cases i with
  | frame univ length => exact ⟨_, exec_frame hlegal univ length⟩
  | tick => exact ⟨_, exec_tick hlegal⟩

end Sys2Proof.Machine
end

section
/-!
SUPPORT. RESET and the configuration inputs: the steps of the host that assert and release RESET and
drive the inputs (70_reset R100, R102, R111), which step changes the latched configuration, the
invariants at reset (R101), and a clock that runs back by one unit (R108).
-/

namespace Sys2Proof.Machine

/-! ## The host's moves on RESET and the configuration inputs -/

/-- The assertion of RESET clears the registers (70_reset R102; log 13). -/
theorem step_assertReset {s : State} {rest : List HostMove} (h : s.transfers = false)
    (hhost : s.host = .assertReset :: rest) :
    step s = .next (resetRegisters { s with host := rest, resetIn := true }) := by
  rw [step_of_not_transfers h, hostTurn_cons hhost, hostMove]

/-- The release of RESET with legal inputs latches them and clears the registers (70_reset R100). -/
theorem step_releaseReset {s : State} {rest : List HostMove} (hreset : s.resetIn = true)
    (hhost : s.host = .releaseReset :: rest) (hlegal : s.cfgIn.legal = true) :
    step s = .next (resetRegisters { s with host := rest, resetIn := false, cfg := s.cfgIn }) := by
  rw [step_of_not_transfers (transfers_of_resetIn hreset), hostTurn_cons hhost]
  simp [hostMove, hreset, hlegal]

/-- Settles O40: driving the inputs is one move of the host, and it writes the inputs alone. -/
theorem drivenInputsChangeNothingElse : Obligations.DrivenInputsChangeNothingElse := by
  intro s inputs rest htransfers hhost
  rw [step_of_not_transfers htransfers, hostTurn_cons hhost, hostMove]

/-- Settles O38: the assertion clears the registers without a sink call, and the reset of the
registers reaches neither the configuration nor the frame buffer. -/
theorem assertedResetStopsWithoutAnEvent : Obligations.AssertedResetStopsWithoutAnEvent :=
  fun _ _ htransfers hhost =>
    ⟨_, step_assertReset htransfers hhost, rfl, rfl, rfl, rfl, rfl, rfl⟩

/-- A step keeps the latched configuration, or is the release of RESET that latches the inputs
(70_reset R100, R111). -/
theorem step_cfg {s t : State} (h : step s = .next t) :
    t.cfg = s.cfg ∨ (s.resetIn = true ∧ t.resetIn = false ∧ t.cfg = s.cfgIn) := by
  rcases step_next h with ⟨i, -, -, hexec⟩ | ⟨-, hturn⟩
  · exact .inl (exec_sameSurroundings hexec).cfg
  · rcases hostTurn_next hturn with ⟨-, rfl⟩ | ⟨m, rest, -, hmove⟩
    · exact .inl rfl
    · rcases hostMove_next hmove with ⟨addr, data, -, rfl⟩ | ⟨cw, now, seed, -, -, -, rfl⟩ |
        ⟨c, -, rfl⟩ | ⟨-, rfl⟩ | ⟨-, hreset, -, rfl⟩ | ⟨-, -, rfl⟩
      · exact .inl rfl
      · exact .inl rfl
      · exact .inl rfl
      · exact .inl rfl
      · exact .inr ⟨hreset, rfl, rfl⟩
      · exact .inl rfl

/-- Settles O37: under RESET the step is the host's turn, the release is the reset of the registers
around the latched inputs, and no other step changes the configuration. -/
theorem releaseOfResetLatchesAndClears : Obligations.ReleaseOfResetLatchesAndClears := by
  refine ⟨fun s hreset => ?_, fun s rest hreset hhost hlegal => ?_, fun s t hstep hchanged => ?_⟩
  · have hnotReady : s.cmdReady = false := by simp [State.cmdReady, hreset]
    exact ⟨hnotReady, step_of_not_transfers (transfers_of_resetIn hreset)⟩
  · exact ⟨_, step_releaseReset hreset hhost hlegal,
      rfl, rfl, rfl, rfl, rfl, rfl, rfl, rfl, rfl, rfl⟩
  · exact (step_cfg hstep).resolve_left hchanged

/-- Settles O45: the state after reset is its own reset, so it is a legal configuration, an idle port
and an empty frame buffer under freshly reset registers. -/
theorem invariantsHoldAfterReset : Obligations.InvariantsHoldAfterReset := by
  have hlegal : State.reset.cfg.legal = true := by decide
  have hinv : Inv (resetRegisters State.reset) := Inv.of_resetRegisters hlegal rfl reset_wf
  exact hinv

/-! ## A clock that runs back (70_reset R108) -/

/-- The elapsed time from one unit ahead is the longest one there is (00_scope R7). -/
theorem elapsed_add_one (now : Time) : elapsed now (now + 1) = 2 ^ timeWidth - 1 :=
  calc elapsed now (now + 1)
      = (now - (now + 1)).toNat := (tdiff_toNat now (now + 1)).symm
    _ = (-1 : Time).toNat := by rw [sub_add_cancel_left]
    _ = 2 ^ timeWidth - 1 := by decide

/-- Settles O20: the elapsed time wraps to the longest one, which no timeout exceeds. -/
theorem clockOneBehindFiresTheWatchdog : Obligations.ClockOneBehindFiresTheWatchdog := by
  intro s hlegal hrunning hbehind
  have helapsed : s.cfg.timeout.toNat ≤ elapsed s.now s.lastFrameTime := by
    rw [hbehind, elapsed_add_one]
    exact Nat.le_sub_one_of_lt s.cfg.timeout.isLt
  exact ⟨_, tickAtTheTimeoutStopsWithoutASample s hlegal hrunning helapsed, rfl, rfl⟩

end Sys2Proof.Machine
end
